-- ==== Sys2Proof/Word.lean ====
section
/-! DEFINITION. The number ranges, bytes and tables of the ZC416 (spec 0.5, R166). -/

namespace Sys2Proof

/-- One byte on either link (R166). -/
abbrev Byte := BitVec 8

/-- A two-byte field of a floor frame: sheet numbers, restart numbers, tokens (R170). -/
abbrev U16 := Fin 65536

/-- A floor address. Index `i` stands for the floor address `i + 1`, 1 to 16 (0.1). -/
abbrev Addr := Fin 16

/-- An account record number, 0 to 511 (R1). -/
abbrev AccountNo := Fin 512

/-- A rate plan number, 0 to 7 (R19). -/
abbrev PlanNo := Fin 8

/-- An authorization channel number, 0 to 3 (R28). -/
abbrev ChannelNo := Fin 4

/-- A channel's generation, 0 to 4,095 (R28). -/
abbrev Generation := Fin 4096

/-- A bucket of the card map, 0 to 255 (R12). -/
abbrev BucketNo := Fin 256

/-- A way of a bucket, 0 to 3 (R12). -/
abbrev WayNo := Fin 4

/-- A fixed number of like things, numbered from 0. -/
structure Table (α : Type) (n : Nat) where
  list      : List α
  length_eq : list.length = n
deriving DecidableEq, Repr

/-- Entry `i` of a table. -/
def Table.get {α : Type} {n : Nat} (t : Table α n) (i : Fin n) : α :=
  t.list[i.val]'(by rw [t.length_eq]; exact i.isLt)

/-- A table with entry `i` replaced. -/
def Table.set {α : Type} {n : Nat} (t : Table α n) (i : Fin n) (x : α) : Table α n :=
  ⟨t.list.set i.val x, by rw [List.length_set, t.length_eq]⟩

/-- A table of `n` equal entries. -/
def Table.fill {α : Type} (n : Nat) (x : α) : Table α n := ⟨List.replicate n x, List.length_replicate⟩

/-- One table after another. -/
def Table.append {α : Type} {m n : Nat} (s : Table α m) (t : Table α n) : Table α (m + n) :=
  ⟨s.list ++ t.list, by rw [List.length_append, s.length_eq, t.length_eq]⟩

end Sys2Proof
end

