-- ==== Sys2Proof/Config.lean ====
section
/-! DEFINITION. What revision A silicon fixes (R163, R62, R131, 0.5) and the values the spec leaves open. -/

namespace Sys2Proof.Config

/-- Vendor code of IDENTIFY (R163). -/
def vendorCode : Nat := 5120
/-- Part code of IDENTIFY (R163). -/
def partCode : Nat := 416
/-- Revision of IDENTIFY: revision A silicon (R163). -/
def revision : Nat := 1

/-- The lowest balance, minor units (0.5). -/
def minBalance : Int := -9999999
/-- The highest balance, minor units (0.5). -/
def maxBalance : Int := 99999999
/-- The highest credit limit (0.5). -/
def maxCreditLimit : Nat := 9999999
/-- The highest discount, per mille (0.5). -/
def maxDiscount : Nat := 900
/-- The highest hold and hold ceiling (0.5). -/
def maxHold : Nat := 999999
/-- The largest size of an adjustment delta (0.5). -/
def maxDelta : Int := 9999999
/-- The highest card number, 19 decimal nines (1.3). -/
def maxCard : Nat := 9999999999999999999
/-- The modulus of a meter's roll-over (R131). -/
def meterModulus : Nat := 100000000
/-- Records the journal has room for (R117). -/
def journalSize : Nat := 256
/-- The two marks of the JOURNAL_LEVEL notice (R128). -/
def journalMarks : List Nat := [192, 256]
/-- The most entries of an in-flight list (R46). -/
def pathSize : Nat := 8
/-- The last sequence number before the wrap to 1 (R118). -/
def lastSequence : Nat := 65535
/-- The first guest slot's record number (1.1). -/
def firstGuest : Nat := 480
/-- Entries of a panel text FIFO (R156). -/
def panelSize : Nat := 2
/-- PROBE pattern one (R170). -/
def patternOne : Byte := 85
/-- PROBE pattern two (R170). -/
def patternTwo : Byte := 170
/-- The most records CHANGED ACCOUNTS reports (R11). -/
def changedReport : Nat := 32
/-- The most records READ JOURNAL returns (R126). -/
def journalReport : Nat := 8

/-- FREE VALUE (log entry 2). The rank of a station in the `n`-th choice of an order that no rule fixes:
the closes of one SET MODE or FLOOR reset (R142, R63) and the timers that expire in one second. -/
opaque orderKey : Nat → Addr → Nat

/-- FREE VALUE (log entry 14). Byte `i` of a `width`-byte field that carries a count `x` too large for it. -/
opaque overflowByte : (width x i : Nat) → Byte

/-- FREE VALUE (log entry 28). Byte `i` of a CARD RESULT body where the result carries nothing for it: the office
reason (byte 2) but for a decline OFFICE, the hold (bytes 3 to 5) but for ACCEPTED (R22, R170). -/
opaque unusedByte : (i : Nat) → Byte

end Sys2Proof.Config
end

