-- ==== Sys2Proof/Syntax.lean ====
section
/-! DEFINITION. The commands of the ZC416: one constructor of `Instr` per row of spec/opcode_table.json. -/

namespace Sys2Proof

/-- The six impression classes (0.5). -/
inductive ImpClass where
  | sMono | sColour | sFull | lMono | lColour | lFull
deriving DecidableEq, Repr

/-- One value for each impression class, in class order (R19, R45, R131). -/
structure PerClass (α : Type) where
  sMono   : α
  sColour : α
  sFull   : α
  lMono   : α
  lColour : α
  lFull   : α
deriving DecidableEq, Repr

/-- The capabilities of a station: the classes it lists in its HELLO (0.6, R147). -/
abbrev Capabilities := PerClass Bool

/-- The rates of one class, tiers 1 to 4 (Table 1-3). -/
structure TierRates where
  t1 : Nat
  t2 : Nat
  t3 : Nat
  t4 : Nat
deriving DecidableEq, Repr

/-- The sides of a sheet fed: simplex or duplex, with the class of each side (3.3). -/
inductive Sides where
  | simplex (one : ImpClass)
  | duplex (one two : ImpClass)
deriving DecidableEq, Repr

/-- The ten meters of a station, or one value for each of them (R131, R136). -/
structure Meters (α : Type) where
  classes    : PerClass α
  service    : α
  duplicate  : α
  writtenOff : α
  jams       : α
deriving DecidableEq, Repr

/-- One value for each of the six station timers, in their order (3.9, R62). -/
structure PerTimer (α : Type) where
  authorization  : α
  idle           : α
  holdWait       : α
  jam            : α
  drain          : α
  reconnectGrace : α
deriving DecidableEq, Repr

/-- The office kinds, in the order of the table of R169. -/
inductive OfficeKind where
  | identify | readStatus | readStation | writeAccount | setAccountLimits | setAccountStatus | readAccount
  | changedAccounts | adjustAccount | writeCard | removeCard | readCard | writePlan | readPlan
  | authorizationAnswer | endJob | setTimers | readJournal | acknowledgeJournal | readMeters | presetMeters
  | setMode | setFreeVend | setStationEnable | rescanFloor | pause | unpause | openWindow | windowData
  | reset | panelText | authRequest | stationStatus | journalLevel
deriving DecidableEq, Repr

/-- An account record as it travels (R171), fields as received. -/
structure AccountPayload where
  number      : Nat
  status      : Nat
  balance     : Int
  creditLimit : Nat
  plan        : Nat
  discount    : Nat
  rights      : Byte
deriving DecidableEq, Repr

/-- A card record as it travels (R171), fields as received; hold ceiling 0 stands for "none". -/
structure CardPayload where
  card    : Nat
  account : Nat
  ceiling : Nat
  gated   : Nat
deriving DecidableEq, Repr

/-- A plan record as it travels (R171), fields as received. -/
structure PlanPayload where
  number : Nat
  loaded : Nat
  b1     : Nat
  b2     : Nat
  b3     : Nat
  rates  : PerClass TierRates
  m      : Nat
  h      : Nat
deriving DecidableEq, Repr

/-- What follows the index in a WINDOW DATA frame (R162): a record of one of the three layouts of R171, or bytes that
are none of them; `short` is a whole body of one byte or none, too short to hold an index. -/
inductive WindowRecord where
  | account (p : AccountPayload)
  | card (p : CardPayload)
  | plan (p : PlanPayload)
  | other (body : List Byte)
  | short (body : List Byte)
deriving DecidableEq, Repr

/-- A panel text as it travels (R170): the display time and two lines of character codes. -/
structure PanelPayload where
  time : Nat
  one  : List Byte
  two  : List Byte
deriving DecidableEq, Repr

/-- What comes back to a PROBE (R148, R150) once a reply has begun. -/
inductive ProbeReply where
  /-- A frame that is a HELLO, with its address, pattern echo, token and capabilities. -/
  | hello (addr : Nat) (echo : Byte) (token : U16) (caps : Capabilities)
  /-- A valid NOTHING or EVENT, which counts as a wrong echo (R148). -/
  | notHello
  /-- A garbled frame (R146). -/
  | garbled
deriving DecidableEq, Repr

/-- The reply window a floor frame arrives in (R146): that of a sweep PROBE, of the rotation PROBE, or of a POLL. -/
inductive ReplyWindow where
  | sweep | rotation | poll
deriving DecidableEq, Repr

/-- The four values a STATUS event carries together (6.3). -/
structure EngineFlags where
  doorOpen    : Bool
  engineReady : Bool
  paperOut    : Bool
  tonerLow    : Bool
deriving DecidableEq, Repr

/-- The commands. Office requests carry the request number and their fields as received (R169); replies and
events of the floor carry the address of the frame; timer expiries carry the floor address of the timer. -/
inductive Instr where
  | identify (req : Nat)
  | readStatus (req : Nat)
  | readStation (req addr : Nat)
  | writeAccount (req : Nat) (record : AccountPayload)
  | setAccountLimits (req account : Nat) (creditLimit plan discount : Option Nat) (rights : Option Byte)
  | setAccountStatus (req account status : Nat)
  | readAccount (req account : Nat)
  | changedAccounts (req : Nat)
  | adjustAccount (req account : Nat) (delta : Int) (reason : Nat)
  | writeCard (req : Nat) (record : CardPayload)
  | removeCard (req card : Nat)
  | readCard (req card : Nat)
  | writePlan (req : Nat) (record : PlanPayload)
  | readPlan (req plan : Nat)
  | approveAccount (req tag account : Nat) (hold : Option Nat)
  | approveGuest (req tag amount plan : Nat) (rights : Byte)
  | decline (req tag reason : Nat)
  | endJob (req addr : Nat)
  | setTimers (req : Nat) (values : PerTimer (Option Nat))
  | readJournal (req : Nat)
  | acknowledgeJournal (req sequence : Nat)
  | readMeters (req addr : Nat)
  | presetMeters (req addr : Nat) (values : Meters (Option Nat))
  | setMode (req mode : Nat)
  | setFreeVend (req value : Nat)
  | setStationEnable (req addr value : Nat)
  | rescanFloor (req : Nat)
  | pause (req : Nat)
  | unpause (req : Nat)
  | openWindow (req table start count : Nat)
  | windowData (req index : Nat) (record : WindowRecord)
  | resetFull (req : Nat)
  | resetFloor (req : Nat)
  | panelText (req dest : Nat) (text : PanelPayload)
  | discardedFrame
  | badRequestFrame (dest kind req : Nat)
  | resetPinAssert
  | resetPinRelease
  | sendResponse
  | sendNotice
  | visit
  | sweepReply (reply : ProbeReply)
  | probeReply (reply : ProbeReply)
  | nothing (addr : Nat)
  | hello (addr : Nat) (token : U16) (caps : Capabilities)
  | garbledReply
  | missedReply
  | card (addr : Nat) (toggle : Bool) (number : Nat)
  | cancel (addr : Nat) (toggle : Bool)
  | feed (addr : Nat) (toggle : Bool) (sheet : U16) (sides : Sides)
  | delivered (addr : Nat) (toggle : Bool) (sheet : U16)
  | jam (addr : Nat) (toggle : Bool) (location : Byte)
  | recovered (addr : Nat) (toggle : Bool) (restart : U16)
  | status (addr : Nat) (toggle : Bool) (flags : EngineFlags)
  | finish (addr : Nat) (toggle : Bool)
  | authorizationTimerExpiry (addr : Nat)
  | idleTimerExpiry (addr : Nat)
  | holdWaitTimerExpiry (addr : Nat)
  | jamTimerExpiry (addr : Nat)
  | drainTimerExpiry (addr : Nat)
  | reconnectGraceExpiry (addr : Nat)
  | lossTimerExpiry (addr : Nat)
  | absentProbe
deriving DecidableEq, Repr

end Sys2Proof
end

