-- ==== Sys2Proof/WellFormed.lean ====
section
/-! DEFINITION. Well-formed commands: every operand fits the field of the frame that carries it (R168 to R171). -/

namespace Sys2Proof

/-- `n` fits an unsigned field of `w` bytes (R166). -/
def fits (w n : Nat) : Bool := decide (n < 256 ^ w)

/-- `x` fits a signed field of 4 bytes, two's complement (R166). -/
def fitsSigned (x : Int) : Bool := decide (-2147483648 ≤ x) && decide (x < 2147483648)

/-- An optional operand fits its field when it is present. -/
def fitsOpt (w : Nat) : Option Nat → Bool
  | none => true
  | some n => fits w n

/-- A floor address, 1 to 16. -/
def isFloorAddr (n : Nat) : Bool := decide (1 ≤ n) && decide (n ≤ 16)

/-- A destination of panel text: 1 to 16, or 255 for every station (0.3). -/
def isPanelDest (n : Nat) : Bool := isFloorAddr n || n == 255

/-- `p` holds of the value of every class. -/
def PerClass.all {α : Type} (p : α → Bool) (v : PerClass α) : Bool :=
  p v.sMono && p v.sColour && p v.sFull && p v.lMono && p v.lColour && p v.lFull

/-- `p` holds of the value of every station timer. -/
def PerTimer.all {α : Type} (p : α → Bool) (v : PerTimer α) : Bool :=
  p v.authorization && p v.idle && p v.holdWait && p v.jam && p v.drain && p v.reconnectGrace

/-- `p` holds of every meter. -/
def Meters.all {α : Type} (p : α → Bool) (v : Meters α) : Bool :=
  v.classes.all p && p v.service && p v.duplicate && p v.writtenOff && p v.jams

def TierRates.wf (r : TierRates) : Bool := fits 2 r.t1 && fits 2 r.t2 && fits 2 r.t3 && fits 2 r.t4

def AccountPayload.wf (p : AccountPayload) : Bool :=
  fits 2 p.number && fits 1 p.status && fitsSigned p.balance && fits 4 p.creditLimit && fits 1 p.plan
    && fits 2 p.discount

def CardPayload.wf (p : CardPayload) : Bool :=
  fits 8 p.card && fits 2 p.account && fits 3 p.ceiling && fits 1 p.gated

def PlanPayload.wf (p : PlanPayload) : Bool :=
  fits 1 p.number && fits 1 p.loaded && fits 2 p.b1 && fits 2 p.b2 && fits 2 p.b3
    && p.rates.all TierRates.wf && fits 2 p.m && fits 3 p.h

/-- The lengths of the three records of R171: account 15, card 14, plan 61 bytes. -/
def recordLengths : List Nat := [15, 14, 61]

def WindowRecord.wf : WindowRecord → Bool
  | .account p => p.wf
  | .card p => p.wf
  | .plan p => p.wf
  | .other body => !recordLengths.contains body.length && decide (body.length ≤ 1022)
  | .short body => decide (body.length ≤ 1)

/-- A WINDOW DATA body holds an index: its first two bytes (R169, R171). -/
def WindowRecord.hasIndex : WindowRecord → Bool
  | .account _ => true
  | .card _ => true
  | .plan _ => true
  | .other _ => true
  | .short _ => false

/-- A panel text as it travels: each line has its 20 codes (R170). -/
def PanelPayload.wf (p : PanelPayload) : Bool :=
  fits 1 p.time && p.one.length == 20 && p.two.length == 20

def ProbeReply.wf : ProbeReply → Bool
  | .hello addr _ _ _ => fits 1 addr
  | .notHello => true
  | .garbled => true

/-- Every operand fits its field. -/
def Instr.wf : Instr → Bool
  | .identify req => fits 1 req
  | .readStatus req => fits 1 req
  | .readStation req addr => fits 1 req && fits 1 addr
  | .writeAccount req p => fits 1 req && p.wf
  | .setAccountLimits req account limit plan discount _ =>
      fits 1 req && fits 2 account && fitsOpt 4 limit && fitsOpt 1 plan && fitsOpt 2 discount
  | .setAccountStatus req account code => fits 1 req && fits 2 account && fits 1 code
  | .readAccount req account => fits 1 req && fits 2 account
  | .changedAccounts req => fits 1 req
  | .adjustAccount req account delta reason =>
      fits 1 req && fits 2 account && fitsSigned delta && fits 1 reason
  | .writeCard req p => fits 1 req && p.wf
  | .removeCard req number => fits 1 req && fits 8 number
  | .readCard req number => fits 1 req && fits 8 number
  | .writePlan req p => fits 1 req && p.wf
  | .readPlan req plan => fits 1 req && fits 1 plan
  | .approveAccount req tag account hold => fits 1 req && fits 2 tag && fits 2 account && fitsOpt 3 hold
  | .approveGuest req tag amount plan _ => fits 1 req && fits 2 tag && fits 3 amount && fits 1 plan
  | .decline req tag reason => fits 1 req && fits 2 tag && fits 1 reason
  | .endJob req addr => fits 1 req && fits 1 addr
  | .setTimers req values => fits 1 req && values.all (fitsOpt 2)
  | .readJournal req => fits 1 req
  | .acknowledgeJournal req sequence => fits 1 req && fits 2 sequence
  | .readMeters req addr => fits 1 req && fits 1 addr
  | .presetMeters req addr values => fits 1 req && fits 1 addr && values.all (fitsOpt 4)
  | .setMode req mode => fits 1 req && fits 1 mode
  | .setFreeVend req value => fits 1 req && fits 1 value
  | .setStationEnable req addr value => fits 1 req && fits 1 addr && fits 1 value
  | .rescanFloor req => fits 1 req
  | .pause req => fits 1 req
  | .unpause req => fits 1 req
  | .openWindow req table start count => fits 1 req && fits 1 table && fits 2 start && fits 2 count
  | .windowData req index record => fits 1 req && fits 2 index && record.wf && (record.hasIndex || index == 0)
  | .resetFull req => fits 1 req
  | .resetFloor req => fits 1 req
  | .panelText req dest text => fits 1 req && isPanelDest dest && text.wf
  | .discardedFrame => true
  | .badRequestFrame dest kind req => fits 1 dest && fits 1 kind && fits 1 req
  | .resetPinAssert => true
  | .resetPinRelease => true
  | .sendResponse => true
  | .sendNotice => true
  | .visit => true
  | .sweepReply reply => reply.wf
  | .probeReply reply => reply.wf
  | .nothing addr => fits 1 addr
  | .hello addr _ _ => fits 1 addr
  | .garbledReply => true
  | .missedReply => true
  | .card addr _ number => fits 1 addr && fits 8 number
  | .cancel addr _ => fits 1 addr
  | .feed addr _ _ _ => fits 1 addr
  | .delivered addr _ _ => fits 1 addr
  | .jam addr _ _ => fits 1 addr
  | .recovered addr _ _ => fits 1 addr
  | .status addr _ _ => fits 1 addr
  | .finish addr _ => fits 1 addr
  | .authorizationTimerExpiry addr => isFloorAddr addr
  | .idleTimerExpiry addr => isFloorAddr addr
  | .holdWaitTimerExpiry addr => isFloorAddr addr
  | .jamTimerExpiry addr => isFloorAddr addr
  | .drainTimerExpiry addr => isFloorAddr addr
  | .reconnectGraceExpiry addr => isFloorAddr addr
  | .lossTimerExpiry addr => isFloorAddr addr
  | .absentProbe => true

end Sys2Proof
end

