-- ==== Sys2Proof/Decode.lean ====
section
/-! DEFINITION. From words and bytes to commands: no row of the table has bits, so `decodeTableWord` reads none;
office and floor frames (R146, R157, R166 to R171) are read whole into the command they are, total on any bytes.
After the readers, the writers of office requests and of station frames. -/

namespace Sys2Proof

/-- The table gives no row any bits: no word spells a command (98_reader.md, "n_rows_with_fixed" 0). -/
def decodeTableWord (_nbits _w : Nat) : Option Instr := none

/-! ### Numbers, sets and codes (R166) -/

/-- An unsigned number in `w` bytes, most significant byte first (R166). -/
def toBE : Nat → Nat → List Byte
  | 0, _ => []
  | w + 1, n => BitVec.ofNat 8 (n / 256 ^ w) :: toBE w n

/-- The unsigned number that bytes give, most significant byte first (R166). -/
def ofBE (bs : List Byte) : Nat := bs.foldl (fun n b => n * 256 + b.toNat) 0

/-- A signed number in 4 bytes, two's complement (R166). -/
def toSigned (x : Int) : List Byte := toBE 4 (x % 4294967296).toNat

/-- The signed number of a 4-byte unsigned reading (R166). -/
def ofSigned (n : Nat) : Int := if n < 2147483648 then (n : Int) else (n : Int) - 4294967296

/-- The byte of a set: bit `k` stands for member `k` (R166). -/
def setByte (members : List Bool) : Byte :=
  BitVec.ofNat 8 (members.foldr (fun b n => 2 * n + b.toNat) 0)

/-- The member at bit `k` of a set's byte. -/
def hasBit (b : Byte) (k : Nat) : Bool := b.getLsbD k

/-- The six classes in class order. -/
def ImpClass.order : List ImpClass := [.sMono, .sColour, .sFull, .lMono, .lColour, .lFull]

/-- The values of the six classes, in class order. -/
def PerClass.list {α : Type} (v : PerClass α) : List α :=
  [v.sMono, v.sColour, v.sFull, v.lMono, v.lColour, v.lFull]

/-- An impression class's code: its position (R166). -/
def ImpClass.code (c : ImpClass) : Nat := ImpClass.order.idxOf c

/-- The impression class of a code, none where the code is outside the list. -/
def ImpClass.ofCode (n : Nat) : Option ImpClass := ImpClass.order[n]?

/-- Capabilities as a byte, numbered in class order (R166). -/
def capsByte (c : Capabilities) : Byte := setByte c.list

/-- The capabilities of a byte; a set bit beyond the last member is out of range (R166). -/
def capsOfByte (b : Byte) : Option Capabilities :=
  if b.toNat < 64 then
    some { sMono := hasBit b 0, sColour := hasBit b 1, sFull := hasBit b 2,
           lMono := hasBit b 3, lColour := hasBit b 4, lFull := hasBit b 5 }
  else none

/-- Engine flags as a byte, in the order of R170. -/
def flagsByte (f : EngineFlags) : Byte := setByte [f.doorOpen, f.engineReady, f.paperOut, f.tonerLow]

/-- The engine flags of a byte; a set bit beyond the last member is out of range (R166). -/
def flagsOfByte (b : Byte) : Option EngineFlags :=
  if b.toNat < 16 then
    some { doorOpen := hasBit b 0, engineReady := hasBit b 1, paperOut := hasBit b 2, tonerLow := hasBit b 3 }
  else none

/-- The office kinds in the order of the table of R169. -/
def OfficeKind.order : List OfficeKind :=
  [.identify, .readStatus, .readStation, .writeAccount, .setAccountLimits, .setAccountStatus, .readAccount,
   .changedAccounts, .adjustAccount, .writeCard, .removeCard, .readCard, .writePlan, .readPlan,
   .authorizationAnswer, .endJob, .setTimers, .readJournal, .acknowledgeJournal, .readMeters, .presetMeters,
   .setMode, .setFreeVend, .setStationEnable, .rescanFloor, .pause, .unpause, .openWindow, .windowData,
   .reset, .panelText, .authRequest, .stationStatus, .journalLevel]

/-- The kind byte of an office frame: the kind's position in the table of R169 (R168). -/
def OfficeKind.code (k : OfficeKind) : Nat := OfficeKind.order.idxOf k

/-- The office kind of a kind byte, none where it is unknown. -/
def OfficeKind.ofCode (n : Nat) : Option OfficeKind := OfficeKind.order[n]?

/-! ### The CRC (R146, R167) -/

/-- One bit of the CRC with polynomial x^16 + x^12 + x^5 + 1, most significant bit first (R146, R167). -/
def crcBit (r : BitVec 16) : BitVec 16 := if r.msb then (r <<< 1) ^^^ 0x1021 else r <<< 1

/-- One byte of the CRC. -/
def crcByte (r : BitVec 16) (b : Byte) : BitVec 16 :=
  crcBit (crcBit (crcBit (crcBit (crcBit (crcBit (crcBit (crcBit (r ^^^ (b.setWidth 16 <<< 8)))))))))

/-- The CRC of a run of bytes: initial value all ones, no reflection, no final inversion (R146, R167). -/
def crc16 (bs : List Byte) : BitVec 16 := bs.foldl crcByte 0xFFFF

/-- The CRC as it is sent, high byte first (R167). -/
def crcBytes (bs : List Byte) : List Byte := toBE 2 (crc16 bs).toNat

/-- Covered fields followed by their CRC (R168). -/
def sealFrame (bs : List Byte) : List Byte := bs ++ crcBytes bs

/-- The covered fields of a frame whose CRC checks, none where it fails or the frame is too short to hold one. -/
def openFrame (bs : List Byte) : Option (List Byte) :=
  let fields := bs.take (bs.length - 2)
  if 2 ≤ bs.length ∧ crcBytes fields = bs.drop (bs.length - 2) then some fields else none

/-! ### Reading the fields of a body -/

/-- An unsigned field of `w` bytes at the head of a body. -/
def field (w : Nat) (bs : List Byte) : Option (Nat × List Byte) :=
  if bs.length < w then none else some (ofBE (bs.take w), bs.drop w)

/-- One byte at the head of a body. -/
def byteField : List Byte → Option (Byte × List Byte)
  | [] => none
  | b :: bs => some (b, bs)

/-- A signed field of 4 bytes. -/
def signedField (bs : List Byte) : Option (Int × List Byte) := do
  let (n, bs) ← field 4 bs
  pure (ofSigned n, bs)

/-- An optional field: a presence byte, then the field when it is 1 (R168; log entry 25). -/
def optField (w : Nat) : List Byte → Option (Option Nat × List Byte)
  | [] => none
  | b :: bs =>
    if b = 0 then some (none, bs)
    else if b = 1 then (field w bs).map fun r => (some r.1, r.2)
    else none

/-- An optional one-byte set (R168). -/
def optByteField : List Byte → Option (Option Byte × List Byte)
  | [] => none
  | b :: bs =>
    if b = 0 then some (none, bs)
    else if b = 1 then (byteField bs).map fun r => (some r.1, r.2)
    else none

/-- The end of a body: nothing may follow its last field. -/
def finish {α : Type} (x : α) : List Byte → Option α
  | [] => some x
  | _ => none

/-- An account record (R171). -/
def readAccountRecord (bs : List Byte) : Option AccountPayload := do
  let (number, bs) ← field 2 bs
  let (status, bs) ← field 1 bs
  let (balance, bs) ← signedField bs
  let (creditLimit, bs) ← field 4 bs
  let (plan, bs) ← field 1 bs
  let (discount, bs) ← field 2 bs
  let (rights, bs) ← byteField bs
  finish { number, status, balance, creditLimit, plan, discount, rights } bs

/-- A card record (R171). -/
def readCardRecord (bs : List Byte) : Option CardPayload := do
  let (card, bs) ← field 8 bs
  let (account, bs) ← field 2 bs
  let (ceiling, bs) ← field 3 bs
  let (gated, bs) ← field 1 bs
  finish { card, account, ceiling, gated } bs

/-- The four tier rates of one class (R171). -/
def readRates (bs : List Byte) : Option (TierRates × List Byte) := do
  let (t1, bs) ← field 2 bs
  let (t2, bs) ← field 2 bs
  let (t3, bs) ← field 2 bs
  let (t4, bs) ← field 2 bs
  pure ({ t1, t2, t3, t4 }, bs)

/-- A plan record (R171). -/
def readPlanRecord (bs : List Byte) : Option PlanPayload := do
  let (number, bs) ← field 1 bs
  let (loaded, bs) ← field 1 bs
  let (b1, bs) ← field 2 bs
  let (b2, bs) ← field 2 bs
  let (b3, bs) ← field 2 bs
  let (sMono, bs) ← readRates bs
  let (sColour, bs) ← readRates bs
  let (sFull, bs) ← readRates bs
  let (lMono, bs) ← readRates bs
  let (lColour, bs) ← readRates bs
  let (lFull, bs) ← readRates bs
  let (m, bs) ← field 2 bs
  let (h, bs) ← field 3 bs
  finish { number, loaded, b1, b2, b3, rates := { sMono, sColour, sFull, lMono, lColour, lFull }, m, h } bs

/-- The record of a WINDOW DATA frame, told by its length (R162, R171). -/
def readWindowRecord (bs : List Byte) : WindowRecord :=
  match readAccountRecord bs, readCardRecord bs, readPlanRecord bs with
  | some p, _, _ => .account p
  | none, some p, _ => .card p
  | none, none, some p => .plan p
  | none, none, none => .other bs

/-- A WINDOW DATA body: its index and what follows it; a body too short for an index is no record (R162). -/
def readWindowData (req : Nat) (bs : List Byte) : Instr :=
  match field 2 bs with
  | some (index, bs) => .windowData req index (readWindowRecord bs)
  | none => .windowData req 0 (.short bs)

/-- A panel text body (R170). -/
def readPanel (bs : List Byte) : Option PanelPayload :=
  match bs with
  | [] => none
  | t :: lines =>
    if lines.length = 40 then some { time := t.toNat, one := lines.take 20, two := lines.drop 20 } else none

/-- The six optional timer values of SET TIMERS (R169). -/
def readTimers (bs : List Byte) : Option (PerTimer (Option Nat)) := do
  let (authorization, bs) ← optField 2 bs
  let (idle, bs) ← optField 2 bs
  let (holdWait, bs) ← optField 2 bs
  let (jam, bs) ← optField 2 bs
  let (drain, bs) ← optField 2 bs
  let (reconnectGrace, bs) ← optField 2 bs
  finish { authorization, idle, holdWait, jam, drain, reconnectGrace } bs

/-- The ten optional meter values of PRESET METERS (R169). -/
def readMeterValues (bs : List Byte) : Option (Meters (Option Nat)) := do
  let (sMono, bs) ← optField 4 bs
  let (sColour, bs) ← optField 4 bs
  let (sFull, bs) ← optField 4 bs
  let (lMono, bs) ← optField 4 bs
  let (lColour, bs) ← optField 4 bs
  let (lFull, bs) ← optField 4 bs
  let (service, bs) ← optField 4 bs
  let (duplicate, bs) ← optField 4 bs
  let (writtenOff, bs) ← optField 4 bs
  let (jams, bs) ← optField 4 bs
  finish { classes := { sMono, sColour, sFull, lMono, lColour, lFull }, service, duplicate, writtenOff, jams } bs

/-- The verdict of an AUTHORIZATION ANSWER (R35, R169). -/
def readVerdict (req tag verdict : Nat) (bs : List Byte) : Option Instr :=
  match verdict with
  | 0 => do
    let (account, bs) ← field 2 bs
    let (hold, bs) ← optField 3 bs
    finish (.approveAccount req tag account hold) bs
  | 1 => do
    let (amount, bs) ← field 3 bs
    let (plan, bs) ← field 1 bs
    let (rights, bs) ← byteField bs
    finish (.approveGuest req tag amount plan rights) bs
  | 2 => do
    let (reason, bs) ← field 1 bs
    finish (.decline req tag reason) bs
  | _ => none

/-- The management request of a kind and a body (R169); none where the kind is none of destination 0's
requests or the body has not the kind's fields. -/
def readRequest (kind : OfficeKind) (req : Nat) (bs : List Byte) : Option Instr :=
  match kind with
  | .identify => finish (.identify req) bs
  | .readStatus => finish (.readStatus req) bs
  | .readStation => do
    let (addr, bs) ← field 1 bs
    finish (.readStation req addr) bs
  | .writeAccount => (readAccountRecord bs).map (.writeAccount req)
  | .setAccountLimits => do
    let (account, bs) ← field 2 bs
    let (limit, bs) ← optField 4 bs
    let (plan, bs) ← optField 1 bs
    let (discount, bs) ← optField 2 bs
    let (rights, bs) ← optByteField bs
    finish (.setAccountLimits req account limit plan discount rights) bs
  | .setAccountStatus => do
    let (account, bs) ← field 2 bs
    let (status, bs) ← field 1 bs
    finish (.setAccountStatus req account status) bs
  | .readAccount => do
    let (account, bs) ← field 2 bs
    finish (.readAccount req account) bs
  | .changedAccounts => finish (.changedAccounts req) bs
  | .adjustAccount => do
    let (account, bs) ← field 2 bs
    let (delta, bs) ← signedField bs
    let (reason, bs) ← field 1 bs
    finish (.adjustAccount req account delta reason) bs
  | .writeCard => (readCardRecord bs).map (.writeCard req)
  | .removeCard => do
    let (card, bs) ← field 8 bs
    finish (.removeCard req card) bs
  | .readCard => do
    let (card, bs) ← field 8 bs
    finish (.readCard req card) bs
  | .writePlan => (readPlanRecord bs).map (.writePlan req)
  | .readPlan => do
    let (plan, bs) ← field 1 bs
    finish (.readPlan req plan) bs
  | .authorizationAnswer => do
    let (tag, bs) ← field 2 bs
    let (verdict, bs) ← field 1 bs
    readVerdict req tag verdict bs
  | .endJob => do
    let (addr, bs) ← field 1 bs
    finish (.endJob req addr) bs
  | .setTimers => (readTimers bs).map (.setTimers req)
  | .readJournal => finish (.readJournal req) bs
  | .acknowledgeJournal => do
    let (sequence, bs) ← field 2 bs
    finish (.acknowledgeJournal req sequence) bs
  | .readMeters => do
    let (addr, bs) ← field 1 bs
    finish (.readMeters req addr) bs
  | .presetMeters => do
    let (addr, bs) ← field 1 bs
    (readMeterValues bs).map (.presetMeters req addr)
  | .setMode => do
    let (mode, bs) ← field 1 bs
    finish (.setMode req mode) bs
  | .setFreeVend => do
    let (value, bs) ← field 1 bs
    finish (.setFreeVend req value) bs
  | .setStationEnable => do
    let (addr, bs) ← field 1 bs
    let (value, bs) ← field 1 bs
    finish (.setStationEnable req addr value) bs
  | .rescanFloor => finish (.rescanFloor req) bs
  | .pause => finish (.pause req) bs
  | .unpause => finish (.unpause req) bs
  | .openWindow => do
    let (table, bs) ← field 1 bs
    let (start, bs) ← field 2 bs
    let (count, bs) ← field 2 bs
    finish (.openWindow req table start count) bs
  | .windowData => some (readWindowData req bs)
  | .reset => do
    let (kind, bs) ← field 1 bs
    match kind with
    | 0 => finish (.resetFloor req) bs
    | 1 => finish (.resetFull req) bs
    | _ => none
  | .panelText => none
  | .authRequest => none
  | .stationStatus => none
  | .journalLevel => none

/-- The command of a well-formed office frame (R157): the request it is, or BAD_REQUEST where its destination,
kind or body is none of the request's (log entry 9). MODEL'S CHOICE, log entry 30: a frame whose length field is
above the 1,024 of R168 and agrees with the bytes received is BAD_REQUEST, whatever its kind. -/
def readOfficeBody (dest kind req : Nat) (body : List Byte) : Instr :=
  let parsed : Option Instr :=
    if 1024 < body.length then none
    else if dest = 0 then (OfficeKind.ofCode kind).bind fun k => readRequest k req body
    else if isPanelDest dest ∧ OfficeKind.ofCode kind = some .panelText then
      (readPanel body).map (.panelText req dest)
    else none
  parsed.getD (.badRequestFrame dest kind req)

/-- The command of the bytes received after a start mark on the office link (R157, R167, R168): discarded where
the CRC fails or the length field disagrees with the bytes received. -/
def receiveOffice (bs : List Byte) : Instr :=
  match openFrame bs with
  | some (dest :: kind :: l1 :: l0 :: req :: body) =>
    if l1.toNat * 256 + l0.toNat = body.length then
      readOfficeBody dest.toNat kind.toNat req.toNat body
    else .discardedFrame
  | _ => .discardedFrame

/-! ### Floor frames from a station (R146, R170) -/

/-- The toggle of an EVENT, 0 or 1 (R170). -/
def readToggle (b : Byte) : Option Bool := if b = 0 then some false else if b = 1 then some true else none

/-- A two-byte number of a floor body. -/
def u16Field (bs : List Byte) : Option (U16 × List Byte) :=
  match bs with
  | a :: b :: bs => some (Fin.ofNat 65536 (a.toNat * 256 + b.toNat), bs)
  | _ => none

/-- The sides of a FEED: 1 or 2, and class 255 for the missing second side of a simplex sheet (R170). -/
def readSides (sides one two : Nat) : Option Sides :=
  match sides with
  | 1 => if two = 255 then (ImpClass.ofCode one).map .simplex else none
  | 2 => (ImpClass.ofCode one).bind fun c => (ImpClass.ofCode two).map (.duplex c)
  | _ => none

/-- The station event of an EVENT body (R170), at a station's address. MODEL'S CHOICE, log entry 34: a DELIVERED that
carries sheet number 0, outside the range of 0.5, is an event all the same, and names no sheet in flight (R52). -/
def readEvent (addr : Nat) (bs : List Byte) : Option Instr := do
  let (t, bs) ← byteField bs
  let toggle ← readToggle t
  let (kind, bs) ← field 1 bs
  match kind with
  | 0 =>
    let (number, bs) ← field 8 bs
    if 1 ≤ number ∧ number ≤ Config.maxCard then finish (.card addr toggle number) bs else none
  | 1 => finish (.cancel addr toggle) bs
  | 2 =>
    let (sheet, bs) ← u16Field bs
    let (sides, bs) ← field 1 bs
    let (one, bs) ← field 1 bs
    let (two, bs) ← field 1 bs
    let s ← readSides sides one two
    finish (.feed addr toggle sheet s) bs
  | 3 =>
    let (sheet, bs) ← u16Field bs
    finish (.delivered addr toggle sheet) bs
  | 4 =>
    let (location, bs) ← byteField bs
    finish (.jam addr toggle location) bs
  | 5 =>
    let (restart, bs) ← u16Field bs
    finish (.recovered addr toggle restart) bs
  | 6 =>
    let (b, bs) ← byteField bs
    let flags ← flagsOfByte b
    finish (.status addr toggle flags) bs
  | 7 => finish (.finish addr toggle) bs
  | _ => none

/-- The pattern echo, token and capabilities of a HELLO body (R170). -/
def readHello (bs : List Byte) : Option (Byte × U16 × Capabilities) := do
  let (echo, bs) ← byteField bs
  let (token, bs) ← u16Field bs
  let (c, bs) ← byteField bs
  let caps ← capsOfByte c
  finish (echo, token, caps) bs

/-- The command of a station frame whose CRC checks, in a POLL's window; none where it is garbled. The kind
bytes of HELLO, NOTHING and EVENT are 7, 8 and 9 (R168). A HELLO carries echo 0 in reply to a POLL (R170;
log entry 10). -/
def readPollReply (addr kind : Nat) (body : List Byte) : Option Instr :=
  match kind with
  | 7 => (readHello body).bind fun h => if h.1 = 0 then some (.hello addr h.2.1 h.2.2) else none
  | 8 => finish (.nothing addr) body
  | 9 => readEvent addr body
  | _ => none

/-- What a station frame whose CRC checks is in a PROBE's window (R148). -/
def readProbeReply (addr kind : Nat) (body : List Byte) : ProbeReply :=
  match kind with
  | 7 => match readHello body with
    | some (echo, token, caps) => .hello addr echo token caps
    | none => .garbled
  | 8 => if body = [] then .notHello else .garbled
  | 9 => if (readEvent addr body).isSome then .notHello else .garbled
  | _ => .garbled

/-- The command of the bytes received after a start mark on the floor link, in the window awaited (R146). -/
def receiveFloor (w : ReplyWindow) (bs : List Byte) : Instr :=
  match w, openFrame bs with
  | .sweep, some (addr :: kind :: body) => .sweepReply (readProbeReply addr.toNat kind.toNat body)
  | .sweep, _ => .sweepReply .garbled
  | .rotation, some (addr :: kind :: body) => .probeReply (readProbeReply addr.toNat kind.toNat body)
  | .rotation, _ => .probeReply .garbled
  | .poll, some (addr :: kind :: body) => (readPollReply addr.toNat kind.toNat body).getD .garbledReply
  | .poll, _ => .garbledReply

/-! ### Writing office requests and station frames -/

/-- An optional field with its presence byte (R168). -/
def optBytes (w : Nat) : Option Nat → List Byte
  | none => [0]
  | some n => 1 :: toBE w n

/-- An optional one-byte set with its presence byte (R168). -/
def optByteBytes : Option Byte → List Byte
  | none => [0]
  | some b => [1, b]

/-- An account record (R171). -/
def AccountPayload.bytes (p : AccountPayload) : List Byte :=
  toBE 2 p.number ++ toBE 1 p.status ++ toSigned p.balance ++ toBE 4 p.creditLimit ++ toBE 1 p.plan
    ++ toBE 2 p.discount ++ [p.rights]

/-- A card record (R171). -/
def CardPayload.bytes (p : CardPayload) : List Byte :=
  toBE 8 p.card ++ toBE 2 p.account ++ toBE 3 p.ceiling ++ toBE 1 p.gated

/-- Four tier rates (R171). -/
def TierRates.bytes (r : TierRates) : List Byte := toBE 2 r.t1 ++ toBE 2 r.t2 ++ toBE 2 r.t3 ++ toBE 2 r.t4

/-- A plan record (R171). -/
def PlanPayload.bytes (p : PlanPayload) : List Byte :=
  toBE 1 p.number ++ toBE 1 p.loaded ++ toBE 2 p.b1 ++ toBE 2 p.b2 ++ toBE 2 p.b3
    ++ p.rates.list.flatMap TierRates.bytes ++ toBE 2 p.m ++ toBE 3 p.h

/-- What a WINDOW DATA frame carries after its index (R162). -/
def WindowRecord.bytes : WindowRecord → List Byte
  | .account p => p.bytes
  | .card p => p.bytes
  | .plan p => p.bytes
  | .other body => body
  | .short body => body

/-- A WINDOW DATA body: the index, where there is one, and what follows it (R169, R171). -/
def windowBytes (index : Nat) (record : WindowRecord) : List Byte :=
  (if record.hasIndex then toBE 2 index else []) ++ record.bytes

/-- A panel text body (R170). -/
def PanelPayload.bytes (p : PanelPayload) : List Byte := toBE 1 p.time ++ p.one ++ p.two

/-- The six optional timer values of SET TIMERS. -/
def timerBytes (v : PerTimer (Option Nat)) : List Byte :=
  optBytes 2 v.authorization ++ optBytes 2 v.idle ++ optBytes 2 v.holdWait ++ optBytes 2 v.jam
    ++ optBytes 2 v.drain ++ optBytes 2 v.reconnectGrace

/-- The ten optional meter values of PRESET METERS. -/
def meterBytes (v : Meters (Option Nat)) : List Byte :=
  v.classes.list.flatMap (optBytes 4) ++ optBytes 4 v.service ++ optBytes 4 v.duplicate
    ++ optBytes 4 v.writtenOff ++ optBytes 4 v.jams

/-- The destination, kind, request number and body of an office request (R168, R169); none for a command
that is no office request. -/
def officeParts : Instr → Option (Nat × OfficeKind × Nat × List Byte)
  | .identify req => some (0, .identify, req, [])
  | .readStatus req => some (0, .readStatus, req, [])
  | .readStation req addr => some (0, .readStation, req, toBE 1 addr)
  | .writeAccount req p => some (0, .writeAccount, req, p.bytes)
  | .setAccountLimits req account limit plan discount rights =>
      some (0, .setAccountLimits, req,
        toBE 2 account ++ optBytes 4 limit ++ optBytes 1 plan ++ optBytes 2 discount ++ optByteBytes rights)
  | .setAccountStatus req account status => some (0, .setAccountStatus, req, toBE 2 account ++ toBE 1 status)
  | .readAccount req account => some (0, .readAccount, req, toBE 2 account)
  | .changedAccounts req => some (0, .changedAccounts, req, [])
  | .adjustAccount req account delta reason =>
      some (0, .adjustAccount, req, toBE 2 account ++ toSigned delta ++ toBE 1 reason)
  | .writeCard req p => some (0, .writeCard, req, p.bytes)
  | .removeCard req number => some (0, .removeCard, req, toBE 8 number)
  | .readCard req number => some (0, .readCard, req, toBE 8 number)
  | .writePlan req p => some (0, .writePlan, req, p.bytes)
  | .readPlan req plan => some (0, .readPlan, req, toBE 1 plan)
  | .approveAccount req tag account hold =>
      some (0, .authorizationAnswer, req, toBE 2 tag ++ toBE 1 0 ++ toBE 2 account ++ optBytes 3 hold)
  | .approveGuest req tag amount plan rights =>
      some (0, .authorizationAnswer, req, toBE 2 tag ++ toBE 1 1 ++ toBE 3 amount ++ toBE 1 plan ++ [rights])
  | .decline req tag reason => some (0, .authorizationAnswer, req, toBE 2 tag ++ toBE 1 2 ++ toBE 1 reason)
  | .endJob req addr => some (0, .endJob, req, toBE 1 addr)
  | .setTimers req values => some (0, .setTimers, req, timerBytes values)
  | .readJournal req => some (0, .readJournal, req, [])
  | .acknowledgeJournal req sequence => some (0, .acknowledgeJournal, req, toBE 2 sequence)
  | .readMeters req addr => some (0, .readMeters, req, toBE 1 addr)
  | .presetMeters req addr values => some (0, .presetMeters, req, toBE 1 addr ++ meterBytes values)
  | .setMode req mode => some (0, .setMode, req, toBE 1 mode)
  | .setFreeVend req value => some (0, .setFreeVend, req, toBE 1 value)
  | .setStationEnable req addr value => some (0, .setStationEnable, req, toBE 1 addr ++ toBE 1 value)
  | .rescanFloor req => some (0, .rescanFloor, req, [])
  | .pause req => some (0, .pause, req, [])
  | .unpause req => some (0, .unpause, req, [])
  | .openWindow req table start count =>
      some (0, .openWindow, req, toBE 1 table ++ toBE 2 start ++ toBE 2 count)
  | .windowData req index record => some (0, .windowData, req, windowBytes index record)
  | .resetFull req => some (0, .reset, req, toBE 1 1)
  | .resetFloor req => some (0, .reset, req, toBE 1 0)
  | .panelText req dest text => some (dest, .panelText, req, text.bytes)
  | .discardedFrame => none
  | .badRequestFrame _ _ _ => none
  | .resetPinAssert => none
  | .resetPinRelease => none
  | .sendResponse => none
  | .sendNotice => none
  | .visit => none
  | .sweepReply _ => none
  | .probeReply _ => none
  | .nothing _ => none
  | .hello _ _ _ => none
  | .garbledReply => none
  | .missedReply => none
  | .card _ _ _ => none
  | .cancel _ _ => none
  | .feed _ _ _ _ => none
  | .delivered _ _ _ => none
  | .jam _ _ _ => none
  | .recovered _ _ _ => none
  | .status _ _ _ => none
  | .finish _ _ => none
  | .authorizationTimerExpiry _ => none
  | .idleTimerExpiry _ => none
  | .holdWaitTimerExpiry _ => none
  | .jamTimerExpiry _ => none
  | .drainTimerExpiry _ => none
  | .reconnectGraceExpiry _ => none
  | .lossTimerExpiry _ => none
  | .absentProbe => none

/-- The bytes after the start mark of an office frame (R168). -/
def officeFrameBytes (dest kind req : Nat) (body : List Byte) : List Byte :=
  sealFrame (toBE 1 dest ++ toBE 1 kind ++ toBE 2 body.length ++ toBE 1 req ++ body)

/-- The bytes after the start mark of an office request (R168, R169). -/
def encodeOffice (i : Instr) : Option (List Byte) :=
  (officeParts i).map fun p => officeFrameBytes p.1 p.2.1.code p.2.2.1 p.2.2.2

/-- The sides of a FEED (R170). -/
def Sides.bytes : Sides → List Byte
  | .simplex one => toBE 1 1 ++ toBE 1 one.code ++ toBE 1 255
  | .duplex one two => toBE 1 2 ++ toBE 1 one.code ++ toBE 1 two.code

/-- The toggle byte of an EVENT. -/
def toggleBytes (t : Bool) : List Byte := toBE 1 t.toNat

/-- The address, kind byte and body of a station's reply to a POLL (R168, R170); none for any other command. -/
def pollReplyParts : Instr → Option (Nat × Nat × List Byte)
  | .nothing addr => some (addr, 8, [])
  | .hello addr token caps => some (addr, 7, 0 :: toBE 2 token.val ++ [capsByte caps])
  | .card addr toggle number => some (addr, 9, toggleBytes toggle ++ toBE 1 0 ++ toBE 8 number)
  | .cancel addr toggle => some (addr, 9, toggleBytes toggle ++ toBE 1 1)
  | .feed addr toggle sheet sides =>
      some (addr, 9, toggleBytes toggle ++ toBE 1 2 ++ toBE 2 sheet.val ++ sides.bytes)
  | .delivered addr toggle sheet => some (addr, 9, toggleBytes toggle ++ toBE 1 3 ++ toBE 2 sheet.val)
  | .jam addr toggle location => some (addr, 9, toggleBytes toggle ++ toBE 1 4 ++ [location])
  | .recovered addr toggle restart => some (addr, 9, toggleBytes toggle ++ toBE 1 5 ++ toBE 2 restart.val)
  | .status addr toggle flags => some (addr, 9, toggleBytes toggle ++ toBE 1 6 ++ [flagsByte flags])
  | .finish addr toggle => some (addr, 9, toggleBytes toggle ++ toBE 1 7)
  | _ => none

/-- The bytes after the start mark of a station's reply to a POLL (R168, R170). -/
def encodePollReply (i : Instr) : Option (List Byte) :=
  (pollReplyParts i).map fun p => sealFrame (toBE 1 p.1 ++ toBE 1 p.2.1 ++ p.2.2)

end Sys2Proof
end

