-- ==== Sys2Proof/Machine/State.lean ====
section
/-! DEFINITION. Every piece of state the spec gives the ZC416, as plain data, and the state after reset. -/

namespace Sys2Proof.Machine

/-! ### Tables of the CAU and the RU (chapter 1) -/

/-- The status of an account record (R1). -/
inductive AccountStatus where
  | unloaded | openAccount | suspended | free | guest
deriving DecidableEq, Repr

/-- A set of rights (Table 1-1). -/
structure Rights where
  mono       : Bool
  colour     : Bool
  large      : Bool
  afterHours : Bool
  service    : Bool
  gated      : Bool
deriving DecidableEq, Repr

/-- The tag of an online authorization: a channel with its generation (R28). -/
structure Tag where
  channel    : ChannelNo
  generation : Generation
deriving DecidableEq, Repr

/-- An account record (Table 1-1). -/
structure Account where
  status      : AccountStatus
  balance     : Int
  creditLimit : Nat
  holdsTotal  : Nat
  openJobs    : Nat
  plan        : PlanNo
  discount    : Nat
  rights      : Rights
  changed     : Bool
  guestTag    : Option Tag
deriving DecidableEq, Repr

/-- A used entry of the card map (Table 1-2). -/
structure CardEntry where
  card    : Nat
  account : AccountNo
  ceiling : Option Nat
  gated   : Bool
deriving DecidableEq, Repr

/-- The four ways of a bucket, each free or holding an entry (R12). -/
abbrev Bucket := Table (Option CardEntry) 4

/-- A rate plan with its capture count (Table 1-3). -/
structure Plan where
  loaded   : Bool
  b1       : Nat
  b2       : Nat
  b3       : Nat
  rates    : PerClass TierRates
  m        : Nat
  h        : Nat
  captures : Nat
deriving DecidableEq, Repr

/-! ### Authorization (chapter 2) -/

/-- What the card lookup yields for a mapped card (R13). -/
structure CardLookup where
  account : AccountNo
  ceiling : Option Nat
  gated   : Bool
deriving DecidableEq, Repr

/-- The card an AUTHORIZING station carries with its one lookup (R13, R30); no lookup is "no account". -/
structure AuthCard where
  card   : Nat
  lookup : Option CardLookup
deriving DecidableEq, Repr

/-- The authorization record of a BUSY channel (R28). -/
structure AuthRecord where
  station   : Addr
  card      : Nat
  lookup    : Option CardLookup
  requested : Option Nat
deriving DecidableEq, Repr

/-- An authorization channel: its generation, and its record while BUSY (R28). -/
structure Channel where
  generation : Generation
  busy       : Option AuthRecord
deriving DecidableEq, Repr

/-- The decline reasons (Table 2-1). -/
inductive DeclineReason where
  | mode | noAccount | suspended | noRights | noPlan | journalFull | funds | stationOff | noGuestSlot
  /-- Declined by the office, with the office reason 0 to 255. -/
  | office (reason : Nat)
  | cancelled | timeout | stationLost | stationReset | forced
deriving DecidableEq, Repr

/-- A CARD RESULT (2.1). -/
inductive CardResult where
  | accepted (hold : Nat)
  | declined (reason : DeclineReason)
  | pending
  | busy
deriving DecidableEq, Repr

/-! ### Jobs and stations (chapters 3, 5, 6) -/

/-- The nine station states (R43). -/
inductive StationState where
  | offline | disabled | idle | authorizing | active | held | jammed | closing | detached
deriving DecidableEq, Repr

/-- The end reasons (5.5). -/
inductive EndReason where
  | finished | idle | funds | jamAbandoned | forced | stationLost | stationReset | controllerReset
deriving DecidableEq, Repr

/-- The price kind of a side (R46). -/
inductive PriceKind where
  | priced | free | service | duplicate
deriving DecidableEq, Repr

/-- One side of a sheet in flight (R46). -/
structure Side where
  cls  : ImpClass
  kind : PriceKind
deriving DecidableEq, Repr

/-- An entry of the in-flight list (R46); a simplex sheet has no second side. -/
structure InFlight where
  sheet     : Nat
  one       : Side
  two       : Option Side
  price     : Nat
  ordinal   : Option Nat
  duplicate : Bool
deriving DecidableEq, Repr

/-- The job record (R45). -/
structure Job where
  account     : AccountNo
  guest       : Bool
  plan        : PlanNo
  discount    : Nat
  rights      : Rights
  service     : Bool
  ceiling     : Option Nat
  hold        : Nat
  total       : Nat            -- T, rate units
  charged     : PerClass Nat
  duplicates  : Nat
  freeVend    : Nat
  writtenOff  : Nat
  confirmed   : Nat            -- C
  highest     : Nat            -- L
  nextFeed    : Nat            -- N
  inFlight    : List InFlight
deriving DecidableEq, Repr

/-- The cause of the last jam (R102). -/
inductive JamCause where
  | none
  | location (code : Byte)
  | order
deriving DecidableEq, Repr

/-- The engine status (R102). -/
structure EngineStatus where
  flags      : EngineFlags
  doorLatch  : Bool
  paperLatch : Bool
  tonerLatch : Bool
  lastJam    : JamCause
deriving DecidableEq, Repr

/-- The six station timers (3.9). -/
inductive TimerKind where
  | authorization | idle | holdWait | jam | drain | reconnectGrace
deriving DecidableEq, Repr

/-- The station timer that runs, and its remaining whole seconds (3.9, R163). -/
structure RunningTimer where
  kind      : TimerKind
  remaining : Nat
deriving DecidableEq, Repr

/-- A station record (R43). -/
structure Station where
  state      : StationState
  job        : Option Job
  remembered : Option StationState
  pendingEnd : Option EndReason
  wanted     : Option Nat
  engine     : EngineStatus
  timer      : Option RunningTimer
  authCard   : Option AuthCard
deriving DecidableEq, Repr

/-! ### Station messages and answers (R170) -/

/-- JOB CLOSED (R93). -/
structure JobClosed where
  reason     : EndReason
  charge     : Nat
  balance    : Int
  writtenOff : Nat
deriving DecidableEq, Repr

/-- The refusal reasons of a FEED (R48, R49, R81); SEQUENCE carries the number expected. -/
inductive FeedRefusal where
  | held | jammed | closing | noJob | sequence (expected : Nat) | cls | rights | limit | pathFull
deriving DecidableEq, Repr

/-- The ANSWER outcomes with their figures (R170). -/
inductive AnswerOutcome where
  | granted (sheet price : Nat)
  | refused (reason : FeedRefusal)
  | taken (sheet : Nat)
  | order | jammed | counted
  | restarted (next writtenOff : Nat)
  | notReady | protocol | noted | closing | closed | ignored | result
deriving DecidableEq, Repr

/-- What an ANSWER carries attached (R154, R170). -/
inductive Attached where
  | none
  | cardResult (r : CardResult)
  | jobClosed (j : JobClosed)
deriving DecidableEq, Repr

/-- The event kinds (R166). -/
inductive EventKind where
  | card | cancel | feed | delivered | jam | recovered | status | finish
deriving DecidableEq, Repr

/-- An ANSWER (R154, R170). -/
structure Answer where
  toggle   : Bool
  kind     : EventKind
  outcome  : AnswerOutcome
  attached : Attached
deriving DecidableEq, Repr

/-! ### The floor link (chapter 10) -/

/-- The presence states (R147). -/
inductive Presence where
  | present | lost | absent | conflict
deriving DecidableEq, Repr

/-- A presence record with its slots and the vend enable line (R147, R155, R156, R140). -/
structure PresenceRecord where
  state        : Presence
  token        : Option U16
  capabilities : Capabilities
  misses       : Nat
  toggle       : Option Bool
  lastAnswer   : Option Answer
  lossTimer    : Option Nat
  cardResult   : Option CardResult
  resume       : Bool
  jobClosed    : Option JobClosed
  panel        : List PanelPayload
  line         : Bool
deriving DecidableEq, Repr

/-- Whether a sweep runs (R148), or is to run once the visit in progress ends (R149). -/
inductive Sweep where
  | idle | requested | running
deriving DecidableEq, Repr

/-- What the first PROBE of a sweep's turn gave (R148): nothing in time, a garbled frame or a wrong echo, or a
valid HELLO with its token. -/
inductive FirstReply where
  | missed
  | bad
  | hello (token : U16)
deriving DecidableEq, Repr

/-- The station messages, in the order they are sent (R155). -/
inductive Message where
  | jobClosed | cardResult | resume | panel
deriving DecidableEq, Repr

/-- The reply awaited (R146): to a sweep's first or second PROBE, to the rotation PROBE, or to a POLL after the
message of the same visit, while that message still stands in its slot (R155). -/
inductive Awaiting where
  | none
  | sweepOne (a : Addr)
  | sweepTwo (a : Addr) (first : FirstReply)
  | probe (a : Addr)
  | poll (a : Addr) (sent : Option Message)
deriving DecidableEq, Repr

/-- A floor frame the FLC sends (R146, R170). -/
inductive FloorFrame where
  | probe (a : Addr) (pattern : Byte)
  | poll (a : Addr)
  | answer (a : Addr) (answer : Answer)
  | cardResult (a : Addr) (r : CardResult)
  | resume (a : Addr)
  | jobClosed (a : Addr) (j : JobClosed)
  | panelText (a : Addr) (p : PanelPayload)
deriving DecidableEq, Repr

/-! ### The journal (chapter 7) -/

/-- A JOB record but for its sequence number (R121). -/
structure JobRecord where
  station    : Addr
  account    : AccountNo
  guest      : Bool
  guestTag   : Option Tag
  plan       : PlanNo
  discount   : Nat
  service    : Bool
  charged    : PerClass Nat
  freeVend   : Nat
  duplicates : Nat
  writtenOff : Nat
  total      : Nat            -- T
  discounted : Nat            -- D
  charge     : Nat
  minApplied : Bool
  finalHold  : Nat
  reason     : EndReason
  balance    : Int
deriving DecidableEq, Repr

/-- An ADJUST record but for its sequence number (R122). -/
structure AdjustRecord where
  account   : AccountNo
  requested : Int
  applied   : Int
  reason    : Nat
  balance   : Int
deriving DecidableEq, Repr

/-- What a journal record holds (R117). -/
inductive RecordBody where
  | job (r : JobRecord)
  | adjust (r : AdjustRecord)
deriving DecidableEq, Repr

/-- A journal record with its sequence number (R118). -/
structure JournalRecord where
  sequence : Nat
  body     : RecordBody
deriving DecidableEq, Repr

/-! ### Mode control and the office link (chapters 9, 11) -/

/-- The shop modes (R138). -/
inductive ShopMode where
  | openShop | afterHours | service | closed
deriving DecidableEq, Repr

/-- The status codes (11.1.1). -/
inductive Status where
  | ok | badRequest | notFound | noAccount | inUse | bucketFull | journalFull | void | absent | panelBusy
  | wrongState | badSequence | windowError
deriving DecidableEq, Repr

/-- The tables of a bulk-load window (R161). -/
inductive WindowTable where
  | accounts | cards | plans
deriving DecidableEq, Repr

/-- An open bulk-load window (11.3). -/
structure Window where
  table : WindowTable
  next  : Nat
  last  : Nat
deriving DecidableEq, Repr

/-- The office link bit rates (0.1, 12.7). -/
inductive OfficeRate where
  | b38400 | b57600 | b115200 | b230400
deriving DecidableEq, Repr

/-- What AUTH_REQUEST carries (R31, R173). -/
structure AuthRequest where
  tag       : Tag
  station   : Addr
  card      : Nat
  account   : Option AccountNo
  requested : Option Nat
deriving DecidableEq, Repr

/-- A notice queue entry: its subject, with contents where they are fixed when it is placed (R159). -/
inductive NoticeEntry where
  | stationStatus (a : Addr)
  | authRequest (r : AuthRequest)
  | journalLevel
deriving DecidableEq, Repr

/-- A notice as it is sent (R173). -/
inductive Notice where
  | authRequest (r : AuthRequest)
  | stationStatus (a : Addr) (state : StationState) (engine : EngineStatus) (jams : Nat)
  | journalLevel (occupancy reservations free : Nat) (head tail : Option Nat)
deriving DecidableEq, Repr

/-- What READ STATUS returns (R163). -/
structure StatusReport where
  mode         : ShopMode
  freeVend     : Bool
  occupancy    : Nat
  reservations : Nat
  busyChannels : Nat
  queueLength  : Nat
  freeGuests   : Nat
  paused       : Bool
  sweeping     : Bool
  notices      : Nat
  stations     : List (Presence × StationState)
deriving DecidableEq, Repr

/-- What READ STATION reports of an open job (R163). -/
structure JobReport where
  account    : AccountNo
  guest      : Bool
  plan       : PlanNo
  discount   : Nat
  service    : Bool
  hold       : Nat
  total      : Nat
  committed  : Nat
  confirmed  : Nat
  highest    : Nat
  nextFeed   : Nat
  inFlight   : Nat
  owed       : Option (Nat × Nat)
  charged    : PerClass Nat
  freeVend   : Nat
  duplicates : Nat
  writtenOff : Nat
deriving DecidableEq, Repr

/-- What READ STATION returns (R163). -/
structure StationReport where
  presence     : Presence
  token        : Option U16
  capabilities : Capabilities
  misses       : Nat
  state        : StationState
  remembered   : Option StationState
  pendingEnd   : Option EndReason
  adminEnable  : Bool
  effective    : Bool
  line         : Bool
  engine       : EngineStatus
  tag          : Option Tag
  queuePlace   : Option Nat
  job          : Option JobReport
  wanted       : Option Nat
  timer        : Option RunningTimer
  jobClosed    : Bool
  cardResult   : Bool
  resume       : Bool
  panelCount   : Nat
deriving DecidableEq, Repr

/-- The figures of a response, after its status code (R169). -/
inductive Figures where
  | none
  | identity (vendor part revision : Nat)
  | shop (r : StatusReport)
  | station (r : StationReport)
  | account (n : AccountNo) (a : Account)
  | limits (creditLimit : Nat) (plan : PlanNo) (discount : Nat) (rights : Rights)
  | accountRead (n : AccountNo) (a : Account) (available : Int)
  | changed (more : Bool) (numbers : List AccountNo)
  | adjusted (sequence : Nat) (requested applied balance available : Int)
  | cardPlace (bucket : BucketNo) (way : WayNo)
  | cardRead (e : CardEntry) (bucket : BucketNo) (way : WayNo)
  | planRead (n : PlanNo) (p : Plan)
  | verdict (refusal : Option DeclineReason)
  | timers (t : PerTimer Nat)
  | journal (occupancy reservations : Nat) (records : List JournalRecord)
  | acknowledged (removed : Nat) (head : Option Nat) (occupancy : Nat)
  | metersRead (a : Addr) (m : Meters Nat)
  | metersPreset (m : Meters Nat)
  | modeChange (previous new : ShopMode) (ended forced : Nat)
  | freeVend (value : Bool)
  | stationEnable (a : Addr) (admin effective : Bool) (state : StationState)
  | windowIndex (index : Nat)
  | placed (count : Nat)
deriving DecidableEq, Repr

/-- A response: the kind byte and the number of its request, its status and its figures (R157, R168). -/
structure Response where
  kind    : Nat
  req     : Nat
  status  : Status
  figures : Figures
deriving DecidableEq, Repr

/-- An office frame the OLC sends (R158). -/
inductive OfficeFrame where
  | response (r : Response)
  | notice (n : Notice)
deriving DecidableEq, Repr

/-! ### The whole machine -/

/-- The state of the ZC416 and the queue of commands that wait. -/
structure State where
  -- card and account unit
  accounts     : Table Account 512
  cards        : Table Bucket 256
  channels     : Table Channel 4
  waitQueue    : List Addr
  -- rate unit
  plans        : Table Plan 8
  -- billing journal
  journal      : List JournalRecord
  reservations : Nat
  nextSeq      : Nat
  -- meter bank
  meters       : Table (Meters Nat) 16
  -- mode control
  mode         : ShopMode
  freeVend     : Bool
  adminEnable  : Table Bool 16
  -- job unit
  stations     : Table Station 16
  timers       : PerTimer Nat
  -- floor link controller
  presence     : Table PresenceRecord 16
  sweep        : Sweep
  awaiting     : Awaiting
  roundPos     : Option Addr
  lastProbed   : Option Addr
  -- office link controller
  responses    : List Response
  notices      : List NoticeEntry
  paused       : Bool
  window       : Option Window
  rate         : OfficeRate
  -- pins
  straps       : Fin 4
  resetLow     : Bool
  -- the model's own: what the two transmitters last sent, and the counter of the free orders
  officeTx     : List OfficeFrame
  floorTx      : List FloorFrame
  freeTick     : Nat
  -- the commands that wait, first in first out
  pending      : List Instr
deriving DecidableEq, Repr

/-- Nothing the spec describes stops the block: every refusal is a response, an ANSWER or a CARD RESULT, after
which it goes on. There is no fault. -/
inductive Fault where
deriving DecidableEq, Repr

/-- Why a command has no meaning. -/
inductive Refusal where
  /-- Raised by an arm of `exec` for a command without a meaning yet; safe, for nothing is said of it. No arm does. -/
  | notModelled (mnemonic : String)
deriving DecidableEq, Repr

/-! ### Reset values -/

/-- The same value for every class. -/
def perClass {α : Type} (x : α) : PerClass α := ⟨x, x, x, x, x, x⟩

/-- The empty set of rights. -/
def Rights.none : Rights := ⟨false, false, false, false, false, false⟩

/-- An account record at its reset values (R5); regular records UNLOADED, guest slots FREE. -/
def Account.reset (status : AccountStatus) : Account :=
  { status, balance := 0, creditLimit := 0, holdsTotal := 0, openJobs := 0, plan := 0, discount := 0,
    rights := Rights.none, changed := false, guestTag := none }

/-- A plan at its reset values (R21). -/
def Plan.reset : Plan :=
  { loaded := false, b1 := 0, b2 := 0, b3 := 0, rates := perClass ⟨0, 0, 0, 0⟩, m := 0, h := 0, captures := 0 }

/-- Engine status of a newly present station, and after every reset (R102). -/
def EngineStatus.reset : EngineStatus :=
  { flags := ⟨false, false, false, false⟩, doorLatch := false, paperLatch := false, tonerLatch := false,
    lastJam := .none }

/-- A station record after a reset (R43). -/
def Station.reset : Station :=
  { state := .offline, job := none, remembered := none, pendingEnd := none, wanted := none,
    engine := EngineStatus.reset, timer := none, authCard := none }

/-- A presence record after a reset (R147). -/
def PresenceRecord.reset : PresenceRecord :=
  { state := .absent, token := none, capabilities := perClass false, misses := 0, toggle := none,
    lastAnswer := none, lossTimer := none, cardResult := none, resume := false, jobClosed := none, panel := [],
    line := false }

/-- Meters at 0 (R137). -/
def Meters.zero : Meters Nat := ⟨perClass 0, 0, 0, 0, 0⟩

/-- The default timer settings (R62). -/
def defaultTimers : PerTimer Nat := ⟨15, 60, 120, 600, 30, 10⟩

/-- The state right after a FULL reset or the release of the reset pin (R5, R18, R21, R42, R43, R62, R130, R137,
R138, R147, R159, R160, R162, R165, R174): the sweep has started with its first PROBE of address 1 (R148).
DESIGN CHOICE, log entry 6: the straps at 00. -/
def State.reset : State :=
  { accounts := (Table.fill 480 (Account.reset .unloaded)).append (Table.fill 32 (Account.reset .free))
    cards := Table.fill 256 (Table.fill 4 none)
    channels := Table.fill 4 ⟨0, none⟩
    waitQueue := []
    plans := Table.fill 8 Plan.reset
    journal := []
    reservations := 0
    nextSeq := 1
    meters := Table.fill 16 Meters.zero
    mode := .closed
    freeVend := false
    adminEnable := Table.fill 16 false
    stations := Table.fill 16 Station.reset
    timers := defaultTimers
    presence := Table.fill 16 PresenceRecord.reset
    sweep := .running
    awaiting := .sweepOne 0
    roundPos := none
    lastProbed := none
    responses := []
    notices := []
    paused := false
    window := none
    rate := .b38400
    straps := 0
    resetLow := false
    officeTx := []
    floorTx := [.probe 0 Config.patternOne]
    freeTick := 0
    pending := [] }

end Sys2Proof.Machine
end

