-- ==== Sys2Proof/Machine/Operands.lean ====
section
/-! DEFINITION. Operands: the range of each field of a command, the codes of named values (R166), and the two
arithmetic conventions of 0.5. -/

namespace Sys2Proof.Machine

/-- `x` limited to the range `lo` to `hi`. -/
def clamp (lo hi x : Nat) : Nat := max lo (min hi x)

/-- `ceil(x / 100)`: rate units to minor units, rounded up (0.5). -/
def ceil100 (x : Nat) : Nat := (x + 99) / 100

/-- The floor address that an index stands for, 1 to 16 (0.1). -/
def floorNumber (a : Addr) : Nat := a.val + 1

/-- The index of a floor address; none outside 1 to 16. -/
def floorAddr (n : Nat) : Option Addr :=
  if h : 1 ≤ n ∧ n ≤ 16 then some ⟨n - 1, by omega⟩ else none

/-- The sixteen floor addresses, ascending. -/
def allAddrs : List Addr := [0, 1, 2, 3, 4, 5, 6, 7, 8, 9, 10, 11, 12, 13, 14, 15]

/-- The four channels, ascending. -/
def allChannels : List ChannelNo := [0, 1, 2, 3]

/-- An account number 0 to 511 (1.2). -/
def accountNo (n : Nat) : Option AccountNo := if h : n < 512 then some ⟨n, h⟩ else none

/-- A regular account number, 0 to 479 (1.1, 1.2). -/
def regularNo (n : Nat) : Option AccountNo := if n < Config.firstGuest then accountNo n else none

/-- A guest slot: 480 to 511 (1.1). -/
def isGuestSlot (n : AccountNo) : Bool := decide (Config.firstGuest ≤ n.val)

/-- A plan number 0 to 7 (R19). -/
def planNo (n : Nat) : Option PlanNo := if h : n < 8 then some ⟨n, h⟩ else none

/-- A card number is 1 to 9,999,999,999,999,999,999 (1.3). -/
def cardInRange (n : Nat) : Bool := decide (1 ≤ n) && decide (n ≤ Config.maxCard)

/-- A balance in range (Table 1-1). -/
def balanceInRange (b : Int) : Bool := decide (Config.minBalance ≤ b) && decide (b ≤ Config.maxBalance)

/-- A value of a hold, a hold ceiling or a guest amount: 1 to 999,999 (R14, R35). -/
def holdInRange (n : Nat) : Bool := decide (1 ≤ n) && decide (n ≤ Config.maxHold)

/-- A byte that carries a flag: 0 or 1 (R166, R169). -/
def flagOf (n : Nat) : Option Bool := if n = 0 then some false else if n = 1 then some true else none

/-- A hold ceiling field, 0 for "none" (R171); none outside 1 to 999,999 (R14). -/
def ceilingOf (n : Nat) : Option (Option Nat) :=
  if n = 0 then some none else if holdInRange n then some (some n) else none

/-- The rights of a byte (R166): bit `k` is member `k`; a bit beyond the last member names no right. -/
def rightsOf (b : Byte) : Option Rights :=
  if b.toNat < 64 then
    some { mono := hasBit b 0, colour := hasBit b 1, large := hasBit b 2,
           afterHours := hasBit b 3, service := hasBit b 4, gated := hasBit b 5 }
  else none

/-- The byte of a set of rights (R166). -/
def rightsByte (r : Rights) : Byte := setByte [r.mono, r.colour, r.large, r.afterHours, r.service, r.gated]

/-- The tag of a number, channel × 4,096 + generation (R166); none where the channel is not 0 to 3. -/
def tagOf (n : Nat) : Option Tag :=
  if h : n < 16384 then
    some { channel := ⟨n / 4096, by omega⟩, generation := ⟨n % 4096, by omega⟩ }
  else none

/-- A tag as a number (R166). -/
def tagNumber (t : Tag) : Nat := t.channel.val * 4096 + t.generation.val

/-- The shop modes in code order (R166). -/
def modeOrder : List ShopMode := [.openShop, .afterHours, .service, .closed]

/-- The shop mode of a code (R166). -/
def modeOf (n : Nat) : Option ShopMode := modeOrder[n]?

/-- The account statuses in code order (R166). -/
def accountStatusOrder : List AccountStatus := [.unloaded, .openAccount, .suspended, .free, .guest]

/-- The account status of a code (R166). -/
def accountStatusOf (n : Nat) : Option AccountStatus := accountStatusOrder[n]?

/-- The status WRITE ACCOUNT may give: OPEN or SUSPENDED (R6). -/
def loadedStatusOf (n : Nat) : Option AccountStatus :=
  match accountStatusOf n with
  | some .openAccount => some .openAccount
  | some .suspended => some .suspended
  | _ => none

/-- The status SET ACCOUNT STATUS may give: UNLOADED, OPEN or SUSPENDED (R9). -/
def regularStatusOf (n : Nat) : Option AccountStatus :=
  match accountStatusOf n with
  | some .unloaded => some .unloaded
  | some .openAccount => some .openAccount
  | some .suspended => some .suspended
  | _ => none

/-- The window tables in code order (R166). -/
def windowTableOrder : List WindowTable := [.accounts, .cards, .plans]

/-- The window table of a code (R166). -/
def windowTableOf (n : Nat) : Option WindowTable := windowTableOrder[n]?

/-- The highest index of a window's table (R161). -/
def lastIndex : WindowTable → Nat
  | .accounts => 479
  | .cards => 1023
  | .plans => 7

/-- The bucket of a card number (R12). -/
def bucketOf (card : Nat) : BucketNo := ⟨card % 65521 % 256, Nat.mod_lt _ (by decide)⟩

/-- The office rate that the two straps select (12.7). -/
def rateOf : Fin 4 → OfficeRate
  | 0 => .b38400
  | 1 => .b57600
  | 2 => .b115200
  | 3 => .b230400

/-- A FEED's sheet number: a field of 0 stands for 65,536 (R49). -/
def feedNumber (field : U16) : Nat := if field.val = 0 then 65536 else field.val

/-- The value of a class. -/
def classGet {α : Type} (v : PerClass α) : ImpClass → α
  | .sMono => v.sMono
  | .sColour => v.sColour
  | .sFull => v.sFull
  | .lMono => v.lMono
  | .lColour => v.lColour
  | .lFull => v.lFull

/-- The value of one class changed by `f`. -/
def classModify {α : Type} (v : PerClass α) (c : ImpClass) (f : α → α) : PerClass α :=
  match c with
  | .sMono => { v with sMono := f v.sMono }
  | .sColour => { v with sColour := f v.sColour }
  | .sFull => { v with sFull := f v.sFull }
  | .lMono => { v with lMono := f v.lMono }
  | .lColour => { v with lColour := f v.lColour }
  | .lFull => { v with lFull := f v.lFull }

/-- The sum over the six classes. -/
def classSum (v : PerClass Nat) : Nat := v.sMono + v.sColour + v.sFull + v.lMono + v.lColour + v.lFull

/-- The setting of a station timer (R62). -/
def settingOf (t : PerTimer Nat) : TimerKind → Nat
  | .authorization => t.authorization
  | .idle => t.idle
  | .holdWait => t.holdWait
  | .jam => t.jam
  | .drain => t.drain
  | .reconnectGrace => t.reconnectGrace

/-- The classes of a sheet's sides, in order. -/
def sideClasses : Sides → List ImpClass
  | .simplex one => [one]
  | .duplex one two => [one, two]

end Sys2Proof.Machine
end

