-- ==== Sys2Proof/Machine/Flags.lean ====
section
/-! DEFINITION. What the rules derive from state and do not store: rights and modes, effective enable, the vend
enable line's law, available, free slots, the committed total, the owed range, the journal's level. -/

namespace Sys2Proof.Machine

/-! ### Station states -/

/-- A station has a job open in ACTIVE, HELD, JAMMED, CLOSING and DETACHED (R43). -/
def hasOpenJob : StationState → Bool
  | .active => true
  | .held => true
  | .jammed => true
  | .closing => true
  | .detached => true
  | .offline => false
  | .disabled => false
  | .idle => false
  | .authorizing => false

/-- A station is at rest in OFFLINE, DISABLED and IDLE (R43). -/
def atRest : StationState → Bool
  | .offline => true
  | .disabled => true
  | .idle => true
  | .authorizing => false
  | .active => false
  | .held => false
  | .jammed => false
  | .closing => false
  | .detached => false

/-- A station has a job or an authorization in progress (R149). -/
def isBusy (st : StationState) : Bool := hasOpenJob st || st == .authorizing

/-- The vend enable line is high exactly in ACTIVE, HELD, JAMMED and CLOSING (R140). -/
def lineHigh : StationState → Bool
  | .active => true
  | .held => true
  | .jammed => true
  | .closing => true
  | .offline => false
  | .disabled => false
  | .idle => false
  | .authorizing => false
  | .detached => false

/-! ### Rights and modes -/

/-- The rights admit a class: every right that the class needs is included (R64). -/
def rightsAdmit (r : Rights) : ImpClass → Bool
  | .sMono => r.mono
  | .sColour => r.mono && r.colour
  | .sFull => r.mono && r.colour
  | .lMono => r.mono && r.large
  | .lColour => r.mono && r.colour && r.large
  | .lFull => r.mono && r.colour && r.large

/-- The mode right (R141): none is asked in OPEN; no card is granted in CLOSED (log entry 16). -/
def hasModeRight (m : ShopMode) (r : Rights) : Bool :=
  match m with
  | .openShop => true
  | .afterHours => r.afterHours
  | .service => r.service
  | .closed => false

/-- An open job is admitted by a shop mode (R143). -/
def jobAdmitted (m : ShopMode) (j : Job) : Bool :=
  match m with
  | .openShop => !j.service
  | .afterHours => !j.service && j.rights.afterHours
  | .service => j.service
  | .closed => false

/-- A station is effectively enabled (R139). -/
def effectiveEnable (s : State) (a : Addr) : Bool :=
  s.adminEnable.get a && s.mode != .closed && (s.presence.get a).state == .present

/-- The rest state that applies to a station (R44). -/
def restState (s : State) (a : Addr) : StationState :=
  if (s.presence.get a).state = .present then
    if effectiveEnable s a then .idle else .disabled
  else .offline

/-- A station is polled, and accepts panel text, while PRESENT or LOST (R147, R156). -/
def isPolled (p : Presence) : Bool :=
  match p with
  | .present => true
  | .lost => true
  | .absent => false
  | .conflict => false

/-! ### Funds -/

/-- The available amount: balance plus credit limit minus holds total (R2). -/
def available (a : Account) : Int := a.balance + a.creditLimit - a.holdsTotal

/-- The status lets an extension be offered: OPEN and GUEST (R80). -/
def extensionStatus : AccountStatus → Bool
  | .openAccount => true
  | .guest => true
  | .unloaded => false
  | .suspended => false
  | .free => false

/-- The status has a balance to adjust: OPEN, SUSPENDED or GUEST (R123). -/
def adjustableStatus : AccountStatus → Bool
  | .openAccount => true
  | .suspended => true
  | .guest => true
  | .unloaded => false
  | .free => false

/-- The least that a grant outside SERVICE mode asks of the account: the greater of m and 1 (R24, R36, R37). -/
def leastFunds (p : Plan) : Nat := max p.m 1

/-! ### The journal -/

/-- Occupancy plus reservations (R128). -/
def journalLevel (s : State) : Nat := s.journal.length + s.reservations

/-- The journal has a free slot (R119). -/
def journalHasRoom (s : State) : Bool := decide (journalLevel s < Config.journalSize)

/-- The free slots (R119). -/
def freeSlots (s : State) : Nat := Config.journalSize - s.journal.length - s.reservations

/-! ### A job's derived figures -/

/-- The sum of the pending prices of the in-flight list. -/
def pendingPrices (l : List InFlight) : Nat := (l.map InFlight.price).sum

/-- The committed total: T plus the pending prices (R71). -/
def committedTotal (j : Job) : Nat := j.total + pendingPrices j.inFlight

/-- The sides of an in-flight entry, in order. -/
def entrySides (e : InFlight) : List Side := e.one :: e.two.toList

/-- A side takes its ordinal when it is PRICED or SERVICE (R66). -/
def takesOrdinal (d : Side) : Bool :=
  match d.kind with
  | .priced => true
  | .service => true
  | .free => false
  | .duplicate => false

/-- The ordinal offered to a new sheet's first side (R66). -/
def nextOrdinal (j : Job) : Nat :=
  classSum j.charged + ((j.inFlight.flatMap entrySides).filter takesOrdinal).length + 1

/-- The owed range (R47): the numbers from C+1 to L that are not in flight. -/
def owedSheets (j : Job) : List Nat :=
  ((List.range (j.highest - j.confirmed)).map fun k => j.confirmed + 1 + k).filter
    fun n => !(j.inFlight.any fun e => e.sheet == n)

/-- The first and the last number of the owed range, none when it is empty (R47, R163). -/
def owedRange (j : Job) : Option (Nat × Nat) :=
  match owedSheets j with
  | [] => none
  | n :: rest => some (n, (n :: rest).getLast (by simp))

/-- The sheets from C+1 to L, L − C in all (R57). -/
def unconfirmed (j : Job) : Nat := j.highest - j.confirmed

/-! ### Channels -/

/-- The channel a station holds, none where it holds none (R28). -/
def channelOf (s : State) (a : Addr) : Option ChannelNo :=
  allChannels.find? fun c => match (s.channels.get c).busy with
    | some r => r.station == a
    | none => false

/-- The lowest-numbered FREE channel (R29). -/
def freeChannel (s : State) : Option ChannelNo :=
  allChannels.find? fun c => (s.channels.get c).busy.isNone

/-- The authorization record that a tag matches: its channel is BUSY and holds that generation (R28). -/
def matchTag (s : State) (t : Tag) : Option AuthRecord :=
  if (s.channels.get t.channel).generation = t.generation then (s.channels.get t.channel).busy else none

/-- The guest slots, ascending. -/
def guestSlots : List AccountNo :=
  [480, 481, 482, 483, 484, 485, 486, 487, 488, 489, 490, 491, 492, 493, 494, 495,
   496, 497, 498, 499, 500, 501, 502, 503, 504, 505, 506, 507, 508, 509, 510, 511]

/-- The lowest-numbered FREE guest slot (R37). -/
def freeGuestSlot (s : State) : Option AccountNo :=
  guestSlots.find? fun n => (s.accounts.get n).status == .free

/-- A notice entry's subject is that of another entry (R159): AUTH_REQUEST has one subject a channel. -/
def sameSubject : NoticeEntry → NoticeEntry → Bool
  | .stationStatus a, .stationStatus b => a == b
  | .authRequest r, .authRequest q => r.tag.channel == q.tag.channel
  | .journalLevel, .journalLevel => true
  | _, _ => false

end Sys2Proof.Machine
end

