-- ==== Sys2Proof/Machine/Ops.lean ====
section
/-! DEFINITION. The named operations over the records of State: replacing one record, changing a station's state,
starting its timers, placing notices, station messages and responses. -/

namespace Sys2Proof.Machine

/-! ### One record replaced -/

/-- Account `n` replaced. -/
def setAccount (s : State) (n : AccountNo) (x : Account) : State := { s with accounts := s.accounts.set n x }

/-- Bucket `b` of the card map replaced. -/
def setBucket (s : State) (b : BucketNo) (x : Bucket) : State := { s with cards := s.cards.set b x }

/-- Channel `c` replaced. -/
def setChannel (s : State) (c : ChannelNo) (x : Channel) : State := { s with channels := s.channels.set c x }

/-- Plan `p` replaced. -/
def setPlan (s : State) (p : PlanNo) (x : Plan) : State := { s with plans := s.plans.set p x }

/-- The meters of an address replaced. -/
def setMeters (s : State) (a : Addr) (x : Meters Nat) : State := { s with meters := s.meters.set a x }

/-- The station record of an address replaced. -/
def setStation (s : State) (a : Addr) (x : Station) : State := { s with stations := s.stations.set a x }

/-- The presence record of an address replaced. -/
def setPresence (s : State) (a : Addr) (x : PresenceRecord) : State := { s with presence := s.presence.set a x }

/-- The job record of a station replaced. -/
def setJob (s : State) (a : Addr) (j : Job) : State := setStation s a { s.stations.get a with job := some j }

/-! ### Station state and timers -/

/-- A station takes a state: its timer stops (R43) and the FLC drives its vend enable line (R140). -/
def enter (s : State) (a : Addr) (state : StationState) : State :=
  let s := setStation s a { s.stations.get a with state, timer := none }
  setPresence s a { s.presence.get a with line := lineHigh state }

/-- A station timer starts at its setting (R62). -/
def startTimer (s : State) (a : Addr) (k : TimerKind) : State :=
  setStation s a { s.stations.get a with timer := some { kind := k, remaining := settingOf s.timers k } }

/-- A station's timer stops. -/
def stopTimer (s : State) (a : Addr) : State := setStation s a { s.stations.get a with timer := none }

/-- The one state in which a station timer runs (R43). -/
def timerState : TimerKind → StationState
  | .authorization => .authorizing
  | .idle => .active
  | .holdWait => .held
  | .jam => .jammed
  | .drain => .closing
  | .reconnectGrace => .detached

/-- The station timer of kind `k` is the one that runs, in its state (R43). -/
def timerRuns (s : State) (a : Addr) (k : TimerKind) : Bool :=
  (s.stations.get a).state == timerState k
    && match (s.stations.get a).timer with
      | some t => t.kind == k
      | none => false

/-- The loss timer starts at the reconnect grace setting (R152). -/
def startLossTimer (s : State) (a : Addr) : State :=
  setPresence s a { s.presence.get a with lossTimer := some s.timers.reconnectGrace }

/-- The conditions under which the idle timer runs: ACTIVE, an empty list and no paper-out (R53). -/
def idleConditions (s : State) (a : Addr) : Bool :=
  let r := s.stations.get a
  r.state == .active && !r.engine.flags.paperOut
    && match r.job with
      | some j => j.inFlight.isEmpty
      | none => false

/-- The idle timer of an ACTIVE station: started afresh under its conditions, else stopped (R53). Another state's
timer is not touched. -/
def refreshIdle (s : State) (a : Addr) : State :=
  if idleConditions s a then startTimer s a .idle
  else if (s.stations.get a).state = .active then stopTimer s a
  else s

/-- A station at rest takes the rest state that applies (R44); any other keeps its state (R139). -/
def takeRest (s : State) (a : Addr) : State :=
  if atRest (s.stations.get a).state then enter s a (restState s a) else s

/-- A newly present station's engine status (R102). -/
def newlyPresent (s : State) (a : Addr) : State :=
  setStation s a { s.stations.get a with engine := EngineStatus.reset }

/-! ### Notices (R159) -/

/-- An entry placed in a queue: updated in its place where its subject is queued, else at the tail. -/
def placeIn (n : NoticeEntry) : List NoticeEntry → List NoticeEntry
  | [] => [n]
  | e :: q => if sameSubject e n then n :: q else e :: placeIn n q

/-- A notice placed in the OLC's queue (R159). -/
def placeNotice (s : State) (n : NoticeEntry) : State := { s with notices := placeIn n s.notices }

/-- The JOURNAL_LEVEL notice after an event that raised the level by 1: placed at 192 and at 256 (R128). -/
def noticeLevel (s : State) : State :=
  if Config.journalMarks.contains (journalLevel s) then placeNotice s .journalLevel else s

/-! ### Station messages (R155) -/

/-- A message replaced or withdrawn between its sending and the reply no longer stands to be confirmed (R155). -/
def forgetSent (s : State) (a : Addr) (m : Message) : State :=
  if s.awaiting = .poll a (some m) then { s with awaiting := .poll a none } else s

/-- CARD RESULT placed in the station's slot (R22, R155). MODEL'S CHOICE, log entry 32: a JOB CLOSED that still stands
in its slot is left there beside it. -/
def placeCardResult (s : State) (a : Addr) (r : CardResult) : State :=
  let s := forgetSent s a .cardResult
  setPresence s a { s.presence.get a with cardResult := some r }

/-- RESUME placed in the station's slot (R87). -/
def placeResume (s : State) (a : Addr) : State :=
  let s := forgetSent s a .resume
  setPresence s a { s.presence.get a with resume := true }

/-- RESUME withdrawn from the station's slot (R82, R87). -/
def withdrawResume (s : State) (a : Addr) : State :=
  let s := forgetSent s a .resume
  setPresence s a { s.presence.get a with resume := false }

/-- JOB CLOSED placed in the station's slot; an unconfirmed CARD RESULT is withdrawn (R93, R155). -/
def placeJobClosed (s : State) (a : Addr) (j : JobClosed) : State :=
  let s := forgetSent (forgetSent s a .jobClosed) a .cardResult
  setPresence s a { s.presence.get a with jobClosed := some j, cardResult := none }

/-- A JOB CLOSED that came about outside a station event goes to the slot (R57). -/
def placeClosed (s : State) (a : Addr) : Option JobClosed → State
  | some j => placeJobClosed s a j
  | none => s

/-- A panel text accepted into a FIFO (R156). -/
def placePanel (s : State) (a : Addr) (p : PanelPayload) : State :=
  setPresence s a { s.presence.get a with panel := (s.presence.get a).panel ++ [p] }

/-- An address accepts a panel text: PRESENT or LOST, with fewer than two entries (R156). -/
def panelRoom (s : State) (a : Addr) : Bool :=
  isPolled (s.presence.get a).state && decide ((s.presence.get a).panel.length < Config.panelSize)

/-- The first pending message of a station, in the order of R155. -/
def firstMessage (p : PresenceRecord) : Option Message :=
  if p.jobClosed.isSome then some .jobClosed
  else if p.cardResult.isSome then some .cardResult
  else if p.resume then some .resume
  else if p.panel.isEmpty then none else some .panel

/-- The frame of a pending message; none where the slot is empty. -/
def messageFrame (a : Addr) (p : PresenceRecord) : Message → List FloorFrame
  | .jobClosed => (p.jobClosed.map (FloorFrame.jobClosed a)).toList
  | .cardResult => (p.cardResult.map (FloorFrame.cardResult a)).toList
  | .resume => if p.resume then [.resume a] else []
  | .panel => (p.panel.head?.map (FloorFrame.panelText a)).toList

/-- A confirmed message leaves its slot (R155). -/
def confirmIn (p : PresenceRecord) : Option Message → PresenceRecord
  | some .jobClosed => { p with jobClosed := none }
  | some .cardResult => { p with cardResult := none }
  | some .resume => { p with resume := false }
  | some .panel => { p with panel := p.panel.tail }
  | none => p

/-- A presence record cleared as its address becomes ABSENT or CONFLICT (R147): its loss timer stops too (log
entry 20); the line is the JU state's. -/
def clearedRecord (p : PresenceRecord) (state : Presence) : PresenceRecord :=
  { PresenceRecord.reset with state, line := p.line }

/-! ### Responses (R157, R168) -/

/-- A response joins the waiting responses. -/
def respond (s : State) (kind req : Nat) (status : Status) (figures : Figures) : State :=
  { s with responses := s.responses ++ [{ kind, req, status, figures }] }

/-- What a request comes to: its status, its figures and the state it leaves. -/
structure Reply where
  status  : Status
  figures : Figures
  state   : State

/-- A request refused: a status and nothing else, no state changed. -/
def refuse (status : Status) (s : State) : Reply := { status, figures := .none, state := s }

/-- A request applied. -/
def accept (figures : Figures) (s : State) : Reply := { status := .ok, figures, state := s }

/-- A command taken while the reset pin is high. While it is low the ZC416 takes no frame on either link and
every block holds its FULL reset values (R174). -/
def whenRunning (s : State) (f : State → State) : Host.Outcome State Fault Refusal :=
  .next (if s.resetLow then s else f s)

/-- A management request: a frame to destination 0 that is not WINDOW DATA closes an open window first (R162), is
applied whole, and receives one response (R157). -/
def request (kind : OfficeKind) (req : Nat) (s : State) (f : State → Reply) : Host.Outcome State Fault Refusal :=
  whenRunning s fun s =>
    let r := f { s with window := none }
    respond r.state kind.code req r.status r.figures

/-- A floor address of a timer expiry or of a request; none outside 1 to 16. -/
def atAddr (n : Nat) (s : State) (f : Addr → State) : State :=
  match floorAddr n with
  | some a => f a
  | none => s

/-! ### Orders that no rule fixes (R63, R142; log entry 2) -/

/-- An address inserted by its rank, the lower address first among equal ranks. -/
def insertByRank (tick : Nat) (a : Addr) : List Addr → List Addr
  | [] => [a]
  | b :: q => if Config.orderKey tick a ≤ Config.orderKey tick b then a :: b :: q else b :: insertByRank tick a q

/-- Addresses in the free order of choice `tick`. -/
def sortByRank (tick : Nat) : List Addr → List Addr
  | [] => []
  | a :: q => insertByRank tick a (sortByRank tick q)

/-- Stations acted on in an order that no rule fixes; a choice is made only where there are at least two. -/
def freeOrder (s : State) (as : List Addr) : List Addr := if as.length ≤ 1 then as else sortByRank s.freeTick as

/-- The counter of free choices after `freeOrder`. -/
def tickOrder (s : State) (as : List Addr) : State := if as.length ≤ 1 then s else { s with freeTick := s.freeTick + 1 }

end Sys2Proof.Machine
end

