-- ==== Sys2Proof/Machine/Clock.lean ====
section
/-! DEFINITION. One second of the station timers and the loss timers (0.5, 3.9; log entry 1). -/

namespace Sys2Proof.Machine

/-- The expiry command of a station timer. -/
def expiryOf (k : TimerKind) (a : Addr) : Instr :=
  match k with
  | .authorization => .authorizationTimerExpiry (floorNumber a)
  | .idle => .idleTimerExpiry (floorNumber a)
  | .holdWait => .holdWaitTimerExpiry (floorNumber a)
  | .jam => .jamTimerExpiry (floorNumber a)
  | .drain => .drainTimerExpiry (floorNumber a)
  | .reconnectGrace => .reconnectGraceExpiry (floorNumber a)

/-- The expiries due at an address when one more second has passed. -/
def dueExpiries (s : State) (a : Addr) : List Instr :=
  (match (s.stations.get a).timer with
    | some t => if t.remaining ≤ 1 then [expiryOf t.kind a] else []
    | none => [])
  ++ match (s.presence.get a).lossTimer with
    | some n => if n ≤ 1 then [.lossTimerExpiry (floorNumber a)] else []
    | none => []

/-- The timers of one address counted down by one second. -/
def countDown (s : State) (a : Addr) : State :=
  let r := s.stations.get a
  let p := s.presence.get a
  setPresence
    (setStation s a { r with timer := r.timer.map fun t => { t with remaining := t.remaining - 1 } })
    a { p with lossTimer := p.lossTimer.map fun n => n - 1 }

/-- One second of an idle block: every running timer counts down, and those that reach 0 put their expiries in the
queue, in the free order (log entries 1 and 2). Under a low reset pin nothing counts (R174). -/
def tick (s : State) : State :=
  if s.resetLow then s
  else
    let due := allAddrs.filter fun a => !(dueExpiries s a).isEmpty
    let t := allAddrs.foldl countDown (tickOrder s due)
    { t with pending := (freeOrder s due).flatMap (dueExpiries s) }

end Sys2Proof.Machine
end

