-- ==== Sys2Proof/Machine/Pricing.lean ====
section
/-! DEFINITION. The rate unit: tiers, the price of a side, the settlement charge (chapter 4). -/

namespace Sys2Proof.Machine

/-- The rate of a class's four that the tier of an ordinal selects (R67). -/
def tierRate (p : Plan) (ordinal : Nat) (r : TierRates) : Nat :=
  if ordinal ≤ p.b1 then r.t1
  else if ordinal ≤ p.b2 then r.t2
  else if ordinal ≤ p.b3 then r.t3
  else r.t4

/-- The price and the price kind of one side of a new sheet (R68). -/
def priceSide (p : Plan) (service freeVend : Bool) (c : ImpClass) (ordinal : Nat) : Nat × PriceKind :=
  if service then (0, .service)
  else if freeVend then (0, .free)
  else (tierRate p ordinal (classGet p.rates c), .priced)

/-- The in-flight entry of a new sheet: each side priced at its ordinal (R50, R66, R68). -/
def newEntry (p : Plan) (service freeVend : Bool) (n ordinal : Nat) : Sides → InFlight
  | .simplex one =>
    let q := priceSide p service freeVend one ordinal
    { sheet := n, one := ⟨one, q.2⟩, two := none, price := q.1, ordinal := some ordinal, duplicate := false }
  | .duplex one two =>
    let q := priceSide p service freeVend one ordinal
    let r := priceSide p service freeVend two (ordinal + 1)
    { sheet := n, one := ⟨one, q.2⟩, two := some ⟨two, r.2⟩, price := q.1 + r.1, ordinal := some ordinal,
      duplicate := false }

/-- The in-flight entry of a duplicate: price 0, kind DUPLICATE, no ordinal (R50, R70). -/
def duplicateEntry (n : Nat) : Sides → InFlight
  | .simplex one =>
    { sheet := n, one := ⟨one, .duplicate⟩, two := none, price := 0, ordinal := none, duplicate := true }
  | .duplex one two =>
    { sheet := n, one := ⟨one, .duplicate⟩, two := some ⟨two, .duplicate⟩, price := 0, ordinal := none,
      duplicate := true }

/-- The entry of a sheet that passed the checks: a duplicate when its number is at most C, else new (R50). -/
def feedEntry (s : State) (j : Job) (n : Nat) (sides : Sides) : InFlight :=
  if n ≤ j.confirmed then duplicateEntry n sides
  else newEntry (s.plans.get j.plan) j.service s.freeVend n (nextOrdinal j) sides

/-- The discounted total D (R75). -/
def discounted (total discount : Nat) : Nat := total * (1000 - discount) / 1000

/-- The rounded amount (R76). -/
def rounded (d : Nat) : Nat := (d + 50) / 100

/-- The job has had a priced impression (R77). -/
def hadPriced (j : Job) : Bool := !j.service && decide (1 ≤ classSum j.charged)

/-- The minimum applies: a priced impression, and a rounded amount below m (R77). -/
def minimumApplies (m : Nat) (j : Job) : Bool :=
  hadPriced j && decide (rounded (discounted j.total j.discount) < m)

/-- The charge of a job under the minimum charge `m` of its plan (R77). -/
def chargeOf (m : Nat) (j : Job) : Nat :=
  if minimumApplies m j then m else rounded (discounted j.total j.discount)

end Sys2Proof.Machine
end

