-- ==== Sys2Proof/Machine/Funds.lean ====
section
/-! DEFINITION. Holds: the offer of an extension, extensions, and retries on new funds (5.1, 5.3). -/

namespace Sys2Proof.Machine

/-- The ceiling of a job's extensions: the card ceiling it captured, else its plan's h (R80). -/
def jobCeiling (s : State) (j : Job) : Nat := j.ceiling.getD (s.plans.get j.plan).h

/-- The offer e: the least of ceiling, available and room; 0 on an account that is not OPEN or GUEST (R80). -/
def offer (s : State) (j : Job) : Int :=
  let x := s.accounts.get j.account
  if extensionStatus x.status then
    min (min (jobCeiling s j : Int) (available x)) ((Config.maxHold : Int) - j.hold)
  else 0

/-- The offer is granted: above 0, and hold plus offer covers the wanted amount (R80). -/
def offerCovers (s : State) (j : Job) (wanted : Nat) : Bool :=
  decide (0 < offer s j) && decide ((wanted : Int) ≤ j.hold + offer s j)

/-- An extension taken: the job's hold and its account's holds total rise by the offer (R80). -/
def extend (s : State) (a : Addr) (j : Job) : State :=
  let e := (offer s j).toNat
  let x := s.accounts.get j.account
  setJob (setAccount s j.account { x with holdsTotal := x.holdsTotal + e }) a { j with hold := j.hold + e }

/-- A HELD station goes to ACTIVE with RESUME: the wanted amount is discarded, the idle timer starts under its
conditions (R86). -/
def resumeStation (s : State) (a : Addr) : State :=
  let s := enter s a .active
  let s := setStation s a { s.stations.get a with wanted := none }
  refreshIdle (placeResume s a) a

/-- One extension attempt for a HELD station with its wanted amount: success takes it to ACTIVE, failure leaves
everything as it was (R86). -/
def retryStation (s : State) (a : Addr) : State :=
  let r := s.stations.get a
  match r.state, r.job, r.wanted with
  | .held, some j, some wanted => if offerCovers s j wanted then resumeStation (extend s a j) a else s
  | _, _, _ => s

/-- The station's job is on account `n`. -/
def jobOn (s : State) (n : AccountNo) (a : Addr) : Bool :=
  match (s.stations.get a).job with
  | some j => j.account == n
  | none => false

/-- The retries on an account, in ascending floor address, each reading what the ones before left (R85). -/
def retryAccount (s : State) (n : AccountNo) : State :=
  allAddrs.foldl (fun s a => if jobOn s n a then retryStation s a else s) s

/-- The retries that follow an event on account `n` which left it as it stands in `s`, made when its available
rose above `before` (R85). -/
def retryIfRisen (before : Int) (s : State) (n : AccountNo) : State :=
  if before < available (s.accounts.get n) then retryAccount s n else s

end Sys2Proof.Machine
end

