-- ==== Sys2Proof/Machine/Settlement.lean ====
section
/-! DEFINITION. The billing journal and settlement: writing records, write-offs, the close of a job (R57, R89,
chapter 7). -/

namespace Sys2Proof.Machine

/-- The sequence number after one (R118): 65,535 wraps to 1. -/
def nextSequence (n : Nat) : Nat := if n = Config.lastSequence then 1 else n + 1

/-- A record written at the tail of the journal with the next sequence number (R118). -/
def writeRecord (s : State) (b : RecordBody) : State :=
  { s with journal := s.journal ++ [{ sequence := s.nextSeq, body := b }], nextSeq := nextSequence s.nextSeq }

/-- A meter raised by `k`, with its roll-over (R131). -/
def rollMeter (v k : Nat) : Nat := if v + k < Config.meterModulus then v + k else v + k - Config.meterModulus

/-- The written-off meter raised in one addition (R133). -/
def meterWriteOff (s : State) (a : Addr) (k : Nat) : State :=
  let m := s.meters.get a
  setMeters s a { m with writtenOff := rollMeter m.writtenOff k }

/-- The jam count raised by 1 (R134). -/
def meterJam (s : State) (a : Addr) : State :=
  let m := s.meters.get a
  setMeters s a { m with jams := rollMeter m.jams 1 }

/-- A sum limited to the range of a balance (R90, R124). -/
def saturate (b : Int) : Int := max Config.minBalance (min Config.maxBalance b)

/-- The job at the write-off step of its close: the list emptied, the sheets from C+1 to L written off, L − C in
all, for any end reason and from any state (R57, R47, R133). MODEL'S CHOICE, log entry 29: so it is too for a job that
SET MODE closes while sheets are owed after a restart, where a row of R143 says that nothing further is written off. -/
def writtenOffJob (j : Job) : Job := { j with inFlight := [], writtenOff := j.writtenOff + unconfirmed j }

/-- The account after a settlement: balance charged with saturation, hold released, open jobs lowered, changed
flag set (R90, R91). -/
def settledAccount (x : Account) (charge hold : Nat) : Account :=
  { x with
    balance := max Config.minBalance (x.balance - charge)
    holdsTotal := x.holdsTotal - hold
    openJobs := x.openJobs - 1
    changed := true }

/-- The JOB record of a settlement (R92, R121). -/
def jobRecord (a : Addr) (reason : EndReason) (m : Nat) (j : Job) (x : Account) : JobRecord :=
  { station := a, account := j.account, guest := j.guest, guestTag := if j.guest then x.guestTag else none,
    plan := j.plan, discount := j.discount, service := j.service, charged := j.charged, freeVend := j.freeVend,
    duplicates := j.duplicates, writtenOff := j.writtenOff, total := j.total,
    discounted := discounted j.total j.discount, charge := chargeOf m j, minApplied := minimumApplies m j,
    finalHold := j.hold, reason, balance := x.balance }

/-- JOB CLOSED of a settlement (R93). -/
def jobClosedOf (reason : EndReason) (m : Nat) (j : Job) (x : Account) : JobClosed :=
  { reason, charge := chargeOf m j, balance := x.balance, writtenOff := j.writtenOff }

/-- Steps 1 to 5 of settlement (R89): the charge, the balance, the release of the hold, the JOB record in the
job's reservation, and the return of a guest slot to FREE. -/
def settle (s : State) (a : Addr) (reason : EndReason) (j : Job) : State :=
  let p := s.plans.get j.plan
  let x := settledAccount (s.accounts.get j.account) (chargeOf p.m j) j.hold
  let s := setPlan s j.plan { p with captures := p.captures - 1 }
  let s := writeRecord { s with reservations := s.reservations - 1 } (.job (jobRecord a reason p.m j x))
  setAccount s j.account (if j.guest then Account.reset .free else x)

/-- The station record of a closed job cleared (R57 step 5): job, pending end reason, remembered state and
wanted amount go, and the station takes its rest state. -/
def clearStation (s : State) (a : Addr) : State :=
  let s := setStation s a
    { s.stations.get a with job := none, pendingEnd := none, remembered := none, wanted := none }
  enter s a (restState s a)

/-- The loss timer of a LOST address starts when its job closes (R152). -/
def closeAtLost (s : State) (a : Addr) : State :=
  if (s.presence.get a).state = .lost then startLossTimer s a else s

/-- A close from JAMMED places the STATION_STATUS notice (R114). -/
def noticeLeavingJam (s : State) (a : Addr) (before : StationState) : State :=
  if before = .jammed then placeNotice s (.stationStatus a) else s

/-- The close of a station's job but for the retries of step 7 of R89 (R57, R89). The retries are made after the
record is cleared, so that the closing job is not among them (log entry 7). -/
def closeQuiet (s : State) (a : Addr) (reason : EndReason) (j : Job) : State :=
  let before := (s.stations.get a).state
  let s := meterWriteOff s a (unconfirmed j)
  let s := settle s a reason (writtenOffJob j)
  let s := withdrawResume s a
  let s := clearStation s a
  noticeLeavingJam (closeAtLost s a) a before

/-- The JOB CLOSED of a close, from the state before it (R93). -/
def closedFigures (s : State) (reason : EndReason) (j : Job) : JobClosed :=
  let m := (s.plans.get j.plan).m
  let w := writtenOffJob j
  jobClosedOf reason m w (settledAccount (s.accounts.get j.account) (chargeOf m w) j.hold)

/-- The close of a station's job for an end reason, with its JOB CLOSED; `retry` is whether the settlement's
retries are made (R85; not in a FLOOR reset, R95), and they are made on regular records only (R89 step 7). -/
def closeJob (s : State) (a : Addr) (reason : EndReason) (retry : Bool) : State × Option JobClosed :=
  match (s.stations.get a).job with
  | none => (s, none)
  | some j =>
    let before := available (s.accounts.get j.account)
    let t := closeQuiet s a reason j
    (if retry && !j.guest then retryIfRisen before t j.account else t, some (closedFigures s reason j))

/-- A close outside any event of the station: JOB CLOSED goes to the slot (R57). -/
def closeToSlot (s : State) (a : Addr) (reason : EndReason) : State :=
  let r := closeJob s a reason true
  placeClosed r.1 a r.2

/-- Entry to CLOSING from ACTIVE or HELD (R55): the end reason is recorded, the wanted amount discarded (R82);
with an empty list the job closes at once, else the drain timer starts. -/
def beginClosing (s : State) (a : Addr) (reason : EndReason) : State × Option JobClosed :=
  match (s.stations.get a).job with
  | none => (s, none)
  | some j =>
    let s := enter s a .closing
    let s := setStation s a { s.stations.get a with pendingEnd := some reason, wanted := none }
    if j.inFlight.isEmpty then closeJob s a reason true else (startTimer s a .drain, none)

/-- Entry to CLOSING outside any event of the station. -/
def beginClosingToSlot (s : State) (a : Addr) (reason : EndReason) : State :=
  let r := beginClosing s a reason
  placeClosed r.1 a r.2

/-- The forced close of a station's job by its state (R58, R143). MODEL'S CHOICE, log entry 31: in DETACHED the job
closes at once in every state remembered, CLOSING too. -/
def forceClose (s : State) (a : Addr) : State :=
  match (s.stations.get a).state with
  | .active => beginClosingToSlot s a .forced
  | .held => beginClosingToSlot s a .forced
  | .jammed => closeToSlot s a .forced
  | .detached => closeToSlot s a .forced
  | .closing => s
  | .offline => s
  | .disabled => s
  | .idle => s
  | .authorizing => s

/-- A forced close changes the station: not one already CLOSING, nor one without a job (R142). -/
def forceCloses (st : StationState) : Bool := hasOpenJob st && st != .closing

end Sys2Proof.Machine
end

