-- ==== Sys2Proof/Machine/Authorization.lean ====
section
/-! DEFINITION. Authorization: the card lookup, channels and the wait queue, the end of an authorization, the
grant, the local checks and the checks of an approval (chapter 2, R12, R13). -/

namespace Sys2Proof.Machine

/-- The four ways, ascending. -/
def allWays : List WayNo := [0, 1, 2, 3]

/-- The way of its bucket that holds a card (R12). -/
def wayOf (s : State) (card : Nat) : Option WayNo :=
  allWays.find? fun w => match (s.cards.get (bucketOf card)).get w with
    | some e => e.card == card
    | none => false

/-- The lowest-numbered free way of a card's bucket (R14). -/
def freeWay (s : State) (card : Nat) : Option WayNo :=
  allWays.find? fun w => ((s.cards.get (bucketOf card)).get w).isNone

/-- The entry that holds a card (R13). -/
def entryOf (s : State) (card : Nat) : Option CardEntry :=
  (wayOf s card).bind fun w => (s.cards.get (bucketOf card)).get w

/-- The card lookup: what an entry yields, none for "not mapped" (R13). -/
def lookupCard (s : State) (card : Nat) : Option CardLookup :=
  (entryOf s card).map fun e => { account := e.account, ceiling := e.ceiling, gated := e.gated }

/-! ### Channels and the wait queue -/

/-- The record is loaded: OPEN or SUSPENDED. -/
def isLoaded (x : Account) : Bool := x.status == .openAccount || x.status == .suspended

/-- The requested hold of an authorization, as the record and the plan stand (R28). -/
def requestedHold (s : State) (lookup : Option CardLookup) : Option Nat :=
  match lookup with
  | none => none
  | some l => match l.ceiling with
    | some c => some c
    | none =>
      let x := s.accounts.get l.account
      let p := s.plans.get x.plan
      if x.status != .unloaded && p.loaded then some p.h else none

/-- A station takes a channel: the generation advances, the record is filled from the lookup made at the CARD
event, and AUTH_REQUEST is placed (R28, R30, R31). -/
def takeChannel (s : State) (c : ChannelNo) (a : Addr) (card : AuthCard) : State :=
  let g := (s.channels.get c).generation + 1
  let requested := requestedHold s card.lookup
  let s := setChannel s c
    { generation := g, busy := some { station := a, card := card.card, lookup := card.lookup, requested } }
  placeNotice s (.authRequest
    { tag := { channel := c, generation := g }, station := a, card := card.card,
      account := card.lookup.map CardLookup.account, requested })

/-- The head of the wait queue takes a channel just freed (R30). -/
def headTakes (s : State) (c : ChannelNo) : State :=
  match s.waitQueue with
  | [] => s
  | a :: q =>
    let s := { s with waitQueue := q }
    match (s.stations.get a).authCard with
    | some card => takeChannel s c a card
    | none => s

/-- A channel becomes FREE and keeps its generation; the queue's head takes it at once (R32). -/
def releaseChannel (s : State) (c : ChannelNo) : State :=
  headTakes (setChannel s c { s.channels.get c with busy := none }) c

/-- A station's queue place or channel is given up, whichever it holds (R32). -/
def releaseAuthorization (s : State) (a : Addr) : State :=
  match channelOf s a with
  | some c => releaseChannel s c
  | none => { s with waitQueue := s.waitQueue.filter fun b => b != a }

/-- An authorization ends without a grant and without a word to the station: channel or queue place freed, timer
stopped, rest state taken (R32). -/
def endAuthorization (s : State) (a : Addr) : State :=
  let s := releaseAuthorization s a
  let s := setStation s a { s.stations.get a with authCard := none }
  enter s a (restState s a)

/-- An authorization ends outside any event of the station: DECLINED goes to the CARD RESULT slot (R22, R32). -/
def declineToSlot (s : State) (a : Addr) (reason : DeclineReason) : State :=
  placeCardResult (endAuthorization s a) a (.declined reason)

/-- A card sent online takes the lowest-numbered FREE channel, else joins the tail of the wait queue; the station
stays in AUTHORIZING and its timer starts (R29, R33). -/
def goOnline (s : State) (a : Addr) (card : AuthCard) : State :=
  let s := enter s a .authorizing
  let s := setStation s a { s.stations.get a with authCard := some card }
  let s := startTimer s a .authorization
  match freeChannel s with
  | some c => takeChannel s c a card
  | none => { s with waitQueue := s.waitQueue ++ [a] }

/-! ### The grant (R27) -/

/-- The job record at its opening (R45). -/
def openingJob (n : AccountNo) (guest service : Bool) (x : Account) (ceiling : Option Nat) (hold : Nat) : Job :=
  { account := n, guest, plan := x.plan, discount := x.discount, rights := x.rights, service, ceiling, hold,
    total := 0, charged := perClass 0, duplicates := 0, freeVend := 0, writtenOff := 0,
    confirmed := 0, highest := 0, nextFeed := 1, inFlight := [] }

/-- A grant: hold and open jobs of the record, the channel or queue place, the journal reservation with its level
notice, the capture, the job record, ACTIVE, line and timers, as one action (R27). The service flag is set in
SERVICE mode. -/
def grant (s : State) (a : Addr) (n : AccountNo) (guest : Bool) (ceiling : Option Nat) (hold : Nat) : State :=
  let x := s.accounts.get n
  let s := setAccount s n { x with holdsTotal := x.holdsTotal + hold, openJobs := x.openJobs + 1 }
  let s := releaseAuthorization s a
  let s := noticeLevel { s with reservations := s.reservations + 1 }
  let p := s.plans.get x.plan
  let s := setPlan s x.plan { p with captures := p.captures + 1 }
  let job := openingJob n guest (s.mode == .service) x ceiling hold
  let s := setStation s a { s.stations.get a with job := some job, authCard := none }
  refreshIdle (enter s a .active) a

/-- The hold of a grant on a record: 0 in SERVICE mode, else the smaller of available and the greater of the base
figure and m (R26, R36). -/
def grantHold (s : State) (n : AccountNo) (base : Nat) : Nat :=
  let x := s.accounts.get n
  if s.mode = .service then 0
  else (min (available x) (max base (s.plans.get x.plan).m : Nat)).toNat

/-- The checks of the account that a card or an approval names: status, MONO, mode right, plan (checks 2a to 2d of
R24, checks 1 to 4 of R36). -/
def accountDecline (s : State) (n : AccountNo) : Option DeclineReason :=
  let x := s.accounts.get n
  if x.status = .unloaded then some .noAccount
  else if x.status = .suspended then some .suspended
  else if !x.rights.mono then some .noRights
  else if !hasModeRight s.mode x.rights then some .mode
  else if !(s.plans.get x.plan).loaded then some .noPlan
  else none

/-- The funds check outside SERVICE mode: available at least the greater of m and 1 (check 5 of R24, check 6 of
R36). -/
def fundsShort (s : State) (n : AccountNo) : Bool :=
  let x := s.accounts.get n
  s.mode != .service && decide (available x < (leastFunds (s.plans.get x.plan) : Int))

/-- What the local checks come to (R24). -/
inductive Verdict where
  | decline (reason : DeclineReason)
  | online
  | grant (n : AccountNo) (ceiling : Option Nat) (hold : Nat)
deriving DecidableEq, Repr

/-- The local checks on a card with its lookup, in order (R24, R25, R26). -/
def localChecks (s : State) (lookup : Option CardLookup) : Verdict :=
  match lookup with
  | none => if journalHasRoom s then .online else .decline .journalFull
  | some l =>
    match accountDecline s l.account with
    | some r => .decline r
    | none =>
      let x := s.accounts.get l.account
      if !journalHasRoom s then .decline .journalFull
      else if x.rights.gated || l.gated then .online
      else if fundsShort s l.account then .decline .funds
      else .grant l.account l.ceiling
        (grantHold s l.account (l.ceiling.getD (s.plans.get x.plan).h))

/-- The checks of APPROVE ACCOUNT, in order (R36). -/
def approvalRefusal (s : State) (n : AccountNo) : Option DeclineReason :=
  match accountDecline s n with
  | some r => some r
  | none =>
    if !journalHasRoom s then some .journalFull
    else if fundsShort s n then some .funds
    else none

/-- The checks of APPROVE GUEST, in order, with the slot allocated when every check passes (R37). -/
def guestRefusal (s : State) (amount : Nat) (plan : PlanNo) (rights : Rights) : Except DeclineReason AccountNo :=
  let p := s.plans.get plan
  if !rights.mono then .error .noRights
  else if !hasModeRight s.mode rights then .error .mode
  else if !p.loaded then .error .noPlan
  else if !journalHasRoom s then .error .journalFull
  else if s.mode != .service && decide (amount < leastFunds p) then .error .funds
  else match freeGuestSlot s with
    | some n => .ok n
    | none => .error .noGuestSlot

/-- A guest slot as it is filled (R37). -/
def guestAccount (amount : Nat) (plan : PlanNo) (rights : Rights) (tag : Tag) : Account :=
  { status := .guest, balance := amount, creditLimit := 0, holdsTotal := 0, openJobs := 0, plan, discount := 0,
    rights, changed := false, guestTag := some tag }

end Sys2Proof.Machine
end

