-- ==== Sys2Proof/Machine/AuthorizationRequests.lean ====
section
/-! DEFINITION. The three verdicts of an AUTHORIZATION ANSWER (R35 to R39). -/

namespace Sys2Proof.Machine

/-- A refused approval: the authorization ends with the refusal reason as its decline (R36, R37, R39). -/
def refuseApproval (s : State) (a : Addr) (reason : DeclineReason) : Reply :=
  accept (.verdict (some reason)) (declineToSlot s a reason)

/-- An applied approval: the grant, and CARD RESULT ACCEPTED in the slot (R22, R27, R39). -/
def applyApproval (s : State) (a : Addr) (n : AccountNo) (guest : Bool) (ceiling : Option Nat) (hold : Nat) :
    Reply :=
  accept (.verdict none) (placeCardResult (grant s a n guest ceiling hold) a (.accepted hold))

/-- The card ceiling that the lookup of an authorization found. -/
def recordCeiling (r : AuthRecord) : Option Nat := r.lookup.bind CardLookup.ceiling

/-- The base figure of an approval: the office's amount, else the card's ceiling, else the plan's h (R36). -/
def approvalBase (s : State) (n : AccountNo) (r : AuthRecord) (hold : Option Nat) : Nat :=
  hold.getD ((recordCeiling r).getD (s.plans.get (s.accounts.get n).plan).h)

/-- APPROVE ACCOUNT (R35, R36). -/
def approveAccount (tag account : Nat) (hold : Option Nat) (s : State) : Reply :=
  match tagOf tag, regularNo account with
  | some t, some n =>
    if !(hold.map holdInRange).getD true then refuse .badRequest s
    else
      match matchTag s t with
      | none => refuse .void s
      | some r =>
        match approvalRefusal s n with
        | some reason => refuseApproval s r.station reason
        | none => applyApproval s r.station n false (recordCeiling r) (grantHold s n (approvalBase s n r hold))
  | _, _ => refuse .badRequest s

/-- APPROVE_ACCOUNT (R36). -/
def execApproveAccount (req tag account : Nat) (hold : Option Nat) (s : State) :
    Host.Outcome State Fault Refusal :=
  request .authorizationAnswer req s (approveAccount tag account hold)

/-- The hold of a guest grant: 0 in SERVICE mode, else the smaller of the amount and the plan's h (R37). -/
def guestHold (s : State) (amount : Nat) (plan : PlanNo) : Nat :=
  if s.mode = .service then 0 else min amount (s.plans.get plan).h

/-- APPROVE GUEST (R35, R37): the slot is filled in the action that opens its job. -/
def approveGuest (tag amount plan : Nat) (rights : Byte) (s : State) : Reply :=
  match tagOf tag, planNo plan, rightsOf rights with
  | some t, some p, some rights =>
    if !holdInRange amount then refuse .badRequest s
    else
      match matchTag s t with
      | none => refuse .void s
      | some r =>
        match guestRefusal s amount p rights with
        | .error reason => refuseApproval s r.station reason
        | .ok n =>
          applyApproval (setAccount s n (guestAccount amount p rights t)) r.station n true none
            (guestHold s amount p)
  | _, _, _ => refuse .badRequest s

/-- APPROVE_GUEST (R37). -/
def execApproveGuest (req tag amount plan : Nat) (rights : Byte) (s : State) :
    Host.Outcome State Fault Refusal :=
  request .authorizationAnswer req s (approveGuest tag amount plan rights)

/-- DECLINE (R35, R38). -/
def declineAnswer (tag reason : Nat) (s : State) : Reply :=
  match tagOf tag with
  | some t =>
    if 255 < reason then refuse .badRequest s
    else
      match matchTag s t with
      | none => refuse .void s
      | some r => accept (.verdict none) (declineToSlot s r.station (.office reason))
  | none => refuse .badRequest s

/-- DECLINE (R38). -/
def execDecline (req tag reason : Nat) (s : State) : Host.Outcome State Fault Refusal :=
  request .authorizationAnswer req s (declineAnswer tag reason)

end Sys2Proof.Machine
end

