-- ==== Sys2Proof/Machine/SheetPath.lean ====
section
/-! DEFINITION. How the job unit takes each station event (chapters 2, 3, 5, 6): cards, feeds, deliveries, jams,
recovery, engine status, finish. -/

namespace Sys2Proof.Machine

/-- What an event comes to: the state it leaves, and the outcome and attachment of its ANSWER (R154). -/
structure EventResult where
  state    : State
  outcome  : AnswerOutcome
  attached : Attached

/-- A JOB CLOSED carried in the ANSWER (R57). -/
def attachClosed : Option JobClosed → Attached
  | some j => .jobClosed j
  | none => .none

/-- An ANSWER that carries a CARD RESULT (R170). -/
def resultOf (s : State) (r : CardResult) : EventResult := { state := s, outcome := .result, attached := .cardResult r }

/-- An ANSWER that carries nothing attached. -/
def plainAnswer (s : State) (o : AnswerOutcome) : EventResult := { state := s, outcome := o, attached := .none }

/-! ### CARD and CANCEL (R23, R34) -/

/-- A card at an IDLE station: lookup, local checks, and the local verdict or PENDING (R23, R24, R29). -/
def authorizeCard (number : Nat) (s : State) (a : Addr) : EventResult :=
  let lookup := lookupCard s number
  match localChecks s lookup with
  | .decline r => resultOf (takeRest s a) (.declined r)
  | .online => resultOf (goOnline s a { card := number, lookup }) .pending
  | .grant n ceiling hold => resultOf (grant s a n false ceiling hold) (.accepted hold)

/-- A CARD event by the station's state (R23; OFFLINE and DETACHED take none: log entry 15). -/
def takeCard (number : Nat) (s : State) (a : Addr) : EventResult :=
  match (s.stations.get a).state with
  | .idle => authorizeCard number s a
  | .disabled => resultOf s (.declined .stationOff)
  | .offline => resultOf s (.declined .stationOff)
  | .authorizing => resultOf s .busy
  | .active => resultOf s .busy
  | .held => resultOf s .busy
  | .jammed => resultOf s .busy
  | .closing => resultOf s .busy
  | .detached => resultOf s .busy

/-- A CANCEL event: it ends an authorization and is ignored otherwise (R34). -/
def takeCancel (s : State) (a : Addr) : EventResult :=
  if (s.stations.get a).state = .authorizing then resultOf (endAuthorization s a) (.declined .cancelled)
  else plainAnswer s .ignored

/-! ### FEED (R48 to R50, R81) -/

/-- The five checks of a FEED in ACTIVE, in order (R49, R64, R65). -/
def feedRefusal (s : State) (a : Addr) (j : Job) (n : Nat) (sides : Sides) : Option FeedRefusal :=
  let caps := (s.presence.get a).capabilities
  if n ≠ j.nextFeed then some (.sequence j.nextFeed)
  else if !(sideClasses sides).all (classGet caps) then some .cls
  else if !(sideClasses sides).all (rightsAdmit j.rights) then some .rights
  else if 65535 < n then some .limit
  else if Config.pathSize ≤ j.inFlight.length then some .pathFull
  else none

/-- The projected amount of a feed (R71). -/
def projected (j : Job) (e : InFlight) : Nat := ceil100 (committedTotal j + e.price)

/-- The job with an entry admitted (R50): the list grows at its tail, N and L move. -/
def admitEntry (j : Job) (e : InFlight) : Job :=
  { j with inFlight := j.inFlight ++ [e], nextFeed := e.sheet + 1, highest := max j.highest e.sheet }

/-- A granted feed (R50). -/
def grantFeed (s : State) (a : Addr) (j : Job) (e : InFlight) : EventResult :=
  plainAnswer (stopTimer (setJob s a (admitEntry j e)) a) (.granted e.sheet e.price)

/-- Entry to HELD: RESUME withdrawn, the hold-wait timer started, the wanted amount recorded (R82). -/
def enterHeld (s : State) (a : Addr) (wanted : Nat) : State :=
  let s := enter (withdrawResume s a) a .held
  let s := setStation s a { s.stations.get a with wanted := some wanted }
  startTimer s a .holdWait

/-- The hold check of a feed that passed the checks, with its extension (R72, R80, R81). -/
def holdCheck (s : State) (a : Addr) (j : Job) (e : InFlight) : EventResult :=
  if projected j e ≤ j.hold then grantFeed s a j e
  else if offerCovers s j (projected j e) then
    grantFeed (extend s a j) a { j with hold := j.hold + (offer s j).toNat } e
  else plainAnswer (enterHeld s a (projected j e)) (.refused .held)

/-- A FEED event by the station's state (R48, R49, R50; DETACHED takes none: log entry 15). -/
def takeFeed (sheet : U16) (sides : Sides) (s : State) (a : Addr) : EventResult :=
  match (s.stations.get a).state with
  | .active =>
    match (s.stations.get a).job with
    | none => plainAnswer s (.refused .noJob)
    | some j =>
      match feedRefusal s a j (feedNumber sheet) sides with
      | some r => plainAnswer s (.refused r)
      | none => holdCheck s a j (feedEntry s j (feedNumber sheet) sides)
  | .held => plainAnswer s (.refused .held)
  | .jammed => plainAnswer s (.refused .jammed)
  | .closing => plainAnswer s (.refused .closing)
  | .offline => plainAnswer s (.refused .noJob)
  | .disabled => plainAnswer s (.refused .noJob)
  | .idle => plainAnswer s (.refused .noJob)
  | .authorizing => plainAnswer s (.refused .noJob)
  | .detached => plainAnswer s (.refused .noJob)

/-! ### JAM and order errors (R96 to R100) -/

/-- A jam counted, its cause recorded, the STATION_STATUS notice placed (R96, R99, R100, R134). -/
def recordJam (s : State) (a : Addr) (cause : JamCause) : State :=
  let s := meterJam s a
  let r := s.stations.get a
  let s := setStation s a { r with engine := { r.engine with lastJam := cause } }
  placeNotice s (.stationStatus a)

/-- The in-flight list purged (R97): C, L, N and T keep their values. -/
def purgeJob (j : Job) : Job := { j with inFlight := [] }

/-- Entry to JAMMED: the list purged, the wanted amount discarded, the jam timer started (R96). -/
def enterJammed (s : State) (a : Addr) : State :=
  let s := enter s a .jammed
  let s := setStation s a { s.stations.get a with job := (s.stations.get a).job.map purgeJob, wanted := none }
  startTimer s a .jam

/-- The pending end reason a CLOSING job closes with (R55). -/
def pendingReason (s : State) (a : Addr) : EndReason := (s.stations.get a).pendingEnd.getD .finished

/-- A JAM event by the station's state (R96, R99, R100). -/
def takeJam (cause : JamCause) (s : State) (a : Addr) : EventResult :=
  let t := recordJam s a cause
  match (s.stations.get a).state with
  | .active => plainAnswer (enterJammed t a) .jammed
  | .held => plainAnswer (enterJammed t a) .jammed
  | .closing =>
    let r := closeJob t a (pendingReason t a) true
    { state := r.1, outcome := .closed, attached := attachClosed r.2 }
  | .jammed => plainAnswer t .counted
  | .offline => plainAnswer t .ignored
  | .disabled => plainAnswer t .ignored
  | .idle => plainAnswer t .ignored
  | .authorizing => plainAnswer t .ignored
  | .detached => plainAnswer t .ignored

/-- An order error is a JAM with cause ORDER; its ANSWER carries ORDER (R52, R99). -/
def orderError (s : State) (a : Addr) : EventResult := { takeJam .order s a with outcome := .order }

/-! ### DELIVERED (R51, R52, R132) -/

/-- One delivered side counted (R132). -/
def countSide (service duplicate : Bool) (m : Meters Nat) (d : Side) : Meters Nat :=
  let m := if service then { m with service := rollMeter m.service 1 }
           else { m with classes := classModify m.classes d.cls fun v => rollMeter v 1 }
  if duplicate then { m with duplicate := rollMeter m.duplicate 1 } else m

/-- Every side of a delivered sheet counted (R51, R132). -/
def countSheet (s : State) (a : Addr) (service : Bool) (e : InFlight) : State :=
  setMeters s a ((entrySides e).foldl (countSide service e.duplicate) (s.meters.get a))

/-- A delivered side of a new sheet on the job's counts (R51). -/
def chargeSide (j : Job) (d : Side) : Job :=
  match d.kind with
  | .priced => { j with charged := classModify j.charged d.cls (· + 1) }
  | .service => { j with charged := classModify j.charged d.cls (· + 1) }
  | .free => { j with freeVend := j.freeVend + 1 }
  | .duplicate => j

/-- The job after the delivery of its head entry (R51): a duplicate raises the duplicate impressions; a new sheet
raises T and the counts and moves C. -/
def deliverEntry (j : Job) (e : InFlight) (rest : List InFlight) : Job :=
  if e.duplicate then
    { j with inFlight := rest, duplicates := j.duplicates + (entrySides e).length }
  else
    let j := (entrySides e).foldl chargeSide j
    { j with inFlight := rest, total := j.total + e.price, confirmed := e.sheet }

/-- A matching delivery (R51): TAKEN with the sheet number. In CLOSING an emptied list closes the job, and JOB
CLOSED is attached (R56, R57; log entry 8). -/
def takeMatching (s : State) (a : Addr) (j : Job) (e : InFlight) (rest : List InFlight) : EventResult :=
  let closing := (s.stations.get a).state == .closing
  let s := setJob (countSheet s a j.service e) a (deliverEntry j e rest)
  if closing && rest.isEmpty then
    let r := closeJob s a (pendingReason s a) true
    { state := r.1, outcome := .taken e.sheet, attached := attachClosed r.2 }
  else plainAnswer s (.taken e.sheet)

/-- A DELIVERED event where a matching delivery is possible: matching, or an order error (R51, R52). -/
def matchDelivery (sheet : U16) (s : State) (a : Addr) : EventResult :=
  match (s.stations.get a).job with
  | none => plainAnswer s .ignored
  | some j => match j.inFlight with
    | [] => orderError s a
    | e :: rest => if e.sheet = sheet.val then takeMatching s a j e rest else orderError s a

/-- A DELIVERED event by the station's state (R51, R52). -/
def takeDelivered (sheet : U16) (s : State) (a : Addr) : EventResult :=
  match (s.stations.get a).state with
  | .active => matchDelivery sheet s a
  | .held => matchDelivery sheet s a
  | .closing => matchDelivery sheet s a
  | .jammed => orderError s a
  | .offline => plainAnswer s .ignored
  | .disabled => plainAnswer s .ignored
  | .idle => plainAnswer s .ignored
  | .authorizing => plainAnswer s .ignored
  | .detached => plainAnswer s .ignored

/-! ### RECOVERED (R105 to R109) -/

/-- The sheets that a restart at `r` writes off: C+1 to r−1 (R107). -/
def restartWriteOff (j : Job) (r : Nat) : Nat := r - 1 - j.confirmed

/-- The job after an accepted restart (R106, R107). -/
def restartJob (j : Job) (r : Nat) : Job :=
  { j with nextFeed := r, confirmed := max j.confirmed (r - 1),
           writtenOff := j.writtenOff + restartWriteOff j r }

/-- An accepted RECOVERED (R106). -/
def acceptRestart (s : State) (a : Addr) (j : Job) (r : Nat) : EventResult :=
  let w := restartWriteOff j r
  let s := setJob (meterWriteOff s a w) a (restartJob j r)
  let s := refreshIdle (enter s a .active) a
  plainAnswer (placeNotice s (.stationStatus a)) (.restarted r w)

/-- A RECOVERED event (R105, R109): readiness, then the restart number; ignored outside JAMMED. -/
def takeRecovered (restart : U16) (s : State) (a : Addr) : EventResult :=
  let r := s.stations.get a
  match r.state, r.job with
  | .jammed, some j =>
    if r.engine.flags.doorOpen || !r.engine.flags.engineReady then plainAnswer s .notReady
    else if restart.val = 0 ∨ j.highest + 1 < restart.val then plainAnswer s .protocol
    else acceptRestart s a j restart.val
  | _, _ => plainAnswer s .ignored

/-! ### STATUS (R103) -/

/-- The engine status after a STATUS event: values replaced, latches set by a rise from false to true (R103). -/
def statusEngine (e : EngineStatus) (f : EngineFlags) : EngineStatus :=
  { e with
    flags := f
    doorLatch := e.doorLatch || (f.doorOpen && !e.flags.doorOpen)
    paperLatch := e.paperLatch || (f.paperOut && !e.flags.paperOut)
    tonerLatch := e.tonerLatch || (f.tonerLow && !e.flags.tonerLow) }

/-- A STATUS event, in every state (R103): the notice is placed where a value differed. -/
def takeStatus (f : EngineFlags) (s : State) (a : Addr) : EventResult :=
  let r := s.stations.get a
  let t := setStation s a { r with engine := statusEngine r.engine f }
  plainAnswer (if r.engine.flags = f then t else placeNotice t (.stationStatus a)) .noted

/-! ### FINISH (R54) -/

/-- The outcome of a FINISH that may have closed the job (R54). -/
def finishOutcome : Option JobClosed → AnswerOutcome
  | some _ => .closed
  | none => .closing

/-- A FINISH event by the station's state (R54). -/
def takeFinish (s : State) (a : Addr) : EventResult :=
  match (s.stations.get a).state with
  | .active =>
    let r := beginClosing s a .finished
    { state := r.1, outcome := finishOutcome r.2, attached := attachClosed r.2 }
  | .held =>
    let r := beginClosing s a .finished
    { state := r.1, outcome := finishOutcome r.2, attached := attachClosed r.2 }
  | .jammed =>
    let r := closeJob s a .finished true
    { state := r.1, outcome := .closed, attached := attachClosed r.2 }
  | .closing => plainAnswer s .ignored
  | .offline => plainAnswer s .ignored
  | .disabled => plainAnswer s .ignored
  | .idle => plainAnswer s .ignored
  | .authorizing => plainAnswer s .ignored
  | .detached => plainAnswer s .ignored

end Sys2Proof.Machine
end

