-- ==== Sys2Proof/Machine/Floor.lean ====
section
/-! DEFINITION. The floor link controller (chapter 10): sweeps, the rotation, visits, replies, loss and return,
tokens, toggles. -/

namespace Sys2Proof.Machine

/-! ### Sweeps (R148, R149) -/

/-- A sweep starts: PROBE with pattern one to address 1; no address counts as probed before (R148, R150). -/
def startSweep (s : State) : State :=
  { s with sweep := .running, awaiting := .sweepOne 0, roundPos := none, lastProbed := none,
           floorTx := [.probe 0 Config.patternOne] }

/-- The ANSWER that a visit just sent, if it sent one. -/
def answerSent : List FloorFrame → List FloorFrame
  | [.answer a x] => [.answer a x]
  | _ => []

/-- The end of a visit or of a rotation probe: a sweep asked for meanwhile starts (R149), after the visit's ANSWER. -/
def endExchange (s : State) : State :=
  let s := { s with awaiting := .none }
  if s.sweep = .requested then
    { startSweep s with floorTx := answerSent s.floorTx ++ [.probe 0 Config.patternOne] }
  else s

/-- The next turn of a sweep after address `a`, or its end after address 16 (R148). -/
def nextTurn (s : State) (a : Addr) : State :=
  if a = 15 then { s with sweep := .idle, awaiting := .none, roundPos := none, lastProbed := none }
  else { s with awaiting := .sweepOne (a + 1), floorTx := [.probe (a + 1) Config.patternOne] }

/-- What came to a PROBE with a pattern: nothing, a garbled frame or wrong echo, or a valid HELLO (R146, R148). -/
def judgeProbe (a : Addr) (pattern : Byte) : Option ProbeReply → FirstReply
  | none => .missed
  | some (.hello n echo token _) => if n = floorNumber a ∧ echo = pattern then .hello token else .bad
  | some .notHello => .bad
  | some .garbled => .bad

/-- The capabilities that a reply to a PROBE reports. -/
def replyCaps : Option ProbeReply → Capabilities
  | some (.hello _ _ _ caps) => caps
  | _ => perClass false

/-- The presence that a sweep's two replies decide, with the token of PRESENT (R148). -/
def sweepDecision : FirstReply → FirstReply → Presence × Option U16
  | .bad, _ => (.conflict, none)
  | .missed, .bad => (.conflict, none)
  | .hello _, .bad => (.conflict, none)
  | .missed, .missed => (.absent, none)
  | .missed, .hello _ => (.absent, none)
  | .hello _, .missed => (.absent, none)
  | .hello t, .hello u => if t = u then (.present, some u) else (.conflict, none)

/-- An address found PRESENT by a PROBE (R148, R149, R150): token and capabilities taken, misses 0, toggle none;
newly present unless it was PRESENT or LOST with the same token; a station at rest takes its rest state (R44). -/
def foundPresent (s : State) (a : Addr) (token : U16) (caps : Capabilities) : State :=
  let p := s.presence.get a
  let known := isPolled p.state && p.token == some token
  let s := setPresence s a
    { p with state := .present, token := some token, capabilities := caps, misses := 0, toggle := none,
             lastAnswer := none, lossTimer := none }
  takeRest (if known then s else newlyPresent s a) a

/-- An address found ABSENT or CONFLICT: the record is cleared (R147, R149). -/
def foundMissing (s : State) (a : Addr) (state : Presence) : State :=
  takeRest (setPresence s a (clearedRecord (s.presence.get a) state)) a

/-- The outcome of an address's turn in a sweep (R148). -/
def sweepOutcome (s : State) (a : Addr) (first second : FirstReply) (caps : Capabilities) : State :=
  match sweepDecision first second with
  | (.present, some token) => foundPresent s a token caps
  | (p, _) => foundMissing s a p

/-- What a PROBE's window brings, none where the reply is missed: in a sweep (R148) and at the rotation's probe of
an ABSENT address (R150). Nothing awaited, nothing done (log entry 4). -/
def probeTurn (s : State) (r : Option ProbeReply) : State :=
  match s.awaiting with
  | .sweepOne a =>
    { s with awaiting := .sweepTwo a (judgeProbe a Config.patternOne r), floorTx := [.probe a Config.patternTwo] }
  | .sweepTwo a first =>
    nextTurn (sweepOutcome s a first (judgeProbe a Config.patternTwo r) (replyCaps r)) a
  | .probe a =>
    match judgeProbe a Config.patternOne r with
    | .hello token => endExchange (foundPresent s a token (replyCaps r))
    | _ => endExchange s
  | .poll _ _ => s
  | .none => s

/-- The reply awaited is to a sweep's PROBE. -/
def awaitsSweep : Awaiting → Bool
  | .sweepOne _ => true
  | .sweepTwo _ _ => true
  | _ => false

/-- The reply awaited is to the rotation's PROBE. -/
def awaitsProbe : Awaiting → Bool
  | .probe _ => true
  | _ => false

/-! ### Loss and return (R40, R59, R60, R152) -/

/-- A station with an open job enters DETACHED (R59): its state is remembered, its timer's rest discarded, the
reconnect grace started. -/
def detach (s : State) (a : Addr) : State :=
  let before := (s.stations.get a).state
  let s := enter s a .detached
  let s := setStation s a { s.stations.get a with remembered := some before }
  startTimer s a .reconnectGrace

/-- The JU's action at the loss of a station (R152). -/
def loseStation (s : State) (a : Addr) : State :=
  match (s.stations.get a).state with
  | .active => detach s a
  | .held => detach s a
  | .jammed => detach s a
  | .closing => detach s a
  | .authorizing => startLossTimer (declineToSlot s a .stationLost) a
  | .idle => startLossTimer (enter s a .offline) a
  | .disabled => startLossTimer (enter s a .offline) a
  | .offline => startLossTimer (enter s a .offline) a
  | .detached => s

/-- A station is back in the state it remembered (R60). -/
def backTo (s : State) (a : Addr) (state : StationState) : State :=
  let s := enter s a state
  setStation s a { s.stations.get a with remembered := none }

/-- A DETACHED station returns to its remembered state, whose timer starts afresh; from HELD one extension is
tried (R60, R86). -/
def restoreStation (s : State) (a : Addr) : State :=
  match (s.stations.get a).remembered with
  | some .active => refreshIdle (backTo s a .active) a
  | some .held => retryStation (startTimer (backTo s a .held) a .holdWait) a
  | some .jammed => startTimer (backTo s a .jammed) a .jam
  | some .closing => startTimer (backTo s a .closing) a .drain
  | _ => s

/-- The JU's action at the return of a LOST station with the token known (R60, R152). -/
def returnStation (s : State) (a : Addr) : State :=
  if (s.stations.get a).state = .detached then restoreStation s a else takeRest s a

/-- The JU's action at a restart, a HELLO with a new token (R40, R61, R153); the station is newly present. -/
def restartStation (s : State) (a : Addr) : State :=
  let t := match (s.stations.get a).state with
    | .authorizing => declineToSlot s a .stationReset
    | .active => closeToSlot s a .stationReset
    | .held => closeToSlot s a .stationReset
    | .jammed => closeToSlot s a .stationReset
    | .closing => closeToSlot s a .stationReset
    | .detached => closeToSlot s a .stationReset
    | .offline => takeRest s a
    | .disabled => takeRest s a
    | .idle => takeRest s a
  newlyPresent t a

/-! ### Replies to a POLL (R151, R153, R154, R155) -/

/-- A missed or garbled reply: the miss count rises; at three PRESENT becomes LOST (R151). -/
def missPoll (s : State) (a : Addr) : State :=
  let p := s.presence.get a
  let n := min 3 (p.misses + 1)
  match p.state with
  | .present =>
    if n = 3 then loseStation (setPresence s a { p with state := .lost, misses := 3 }) a
    else setPresence s a { p with misses := n }
  | .lost => setPresence s a { p with misses := n }
  | .absent => s
  | .conflict => s

/-- A valid reply on the presence record: the visit's message confirmed, misses 0, PRESENT, loss timer stopped
(R151, R152, R155). -/
def heard (s : State) (a : Addr) (sent : Option Message) : State :=
  setPresence s a
    { confirmIn (s.presence.get a) sent with state := .present, misses := 0, lossTimer := none }

/-- A valid reply to a POLL: heard, then `f`, which is told whether the address was LOST. An address no longer
polled takes nothing from it (log entry 11). -/
def validReply (s : State) (a : Addr) (sent : Option Message) (f : Bool → State → State) : State :=
  let before := (s.presence.get a).state
  if isPolled before then f (before == .lost) (heard s a sent) else s

/-- The toggle and the last answer become none (R153). -/
def clearToggle (s : State) (a : Addr) : State :=
  setPresence s a { s.presence.get a with toggle := none, lastAnswer := none }

/-- A return where the address was LOST. -/
def returnIf (lost : Bool) (s : State) (a : Addr) : State := if lost then returnStation s a else s

/-- A valid HELLO in reply to a POLL (R153): the same token returns a LOST station; a new one is a restart, and no
return to a remembered state is made. -/
def takeHello (token : U16) (caps : Capabilities) (a : Addr) (lost : Bool) (s : State) : State :=
  if (s.presence.get a).token = some token then clearToggle (returnIf lost s a) a
  else
    let s := clearToggle s a
    restartStation (setPresence s a { s.presence.get a with token := some token, capabilities := caps }) a

/-- An ANSWER sent, and stored with the toggle as the last of a taken event (R154). -/
def sendAnswer (s : State) (a : Addr) (x : Answer) : State :=
  let s := setPresence s a { s.presence.get a with toggle := some x.toggle, lastAnswer := some x }
  { s with floorTx := [.answer a x] }

/-- The stored last answer sent again (R154). -/
def repeatAnswer (s : State) (a : Addr) : State :=
  match (s.presence.get a).lastAnswer with
  | some x => { s with floorTx := [.answer a x] }
  | none => s

/-- The taking of an event starts a job or an authorization at its station. -/
def startsWork (s t : State) (a : Addr) : Bool :=
  !isBusy (s.stations.get a).state && isBusy (t.stations.get a).state

/-- A valid EVENT (R154): a LOST station returns first (R151); a repeat gets the last answer again; any other is
taken by the JU, the idle timer is refreshed (R53) and the ANSWER sent. A sweep asked for lets the visit under way end
(R149), so its EVENT is taken too. MODEL'S CHOICE, log entry 5: but for a CARD that would start a job or an
authorization, which that sweep would meet; it is not taken and gets no ANSWER. -/
def takeEvent (toggle : Bool) (kind : EventKind) (ju : State → Addr → EventResult) (a : Addr) (lost : Bool)
    (s : State) : State :=
  let s := returnIf lost s a
  if (s.presence.get a).toggle = some toggle then repeatAnswer s a
  else
    let r := ju s a
    if s.sweep != .idle && startsWork s r.state a then s
    else sendAnswer (refreshIdle r.state a) a { toggle, kind, outcome := r.outcome, attached := r.attached }

/-- A valid frame from a station at `addr`, in whatever window stands (R146): `f` in a POLL's window; a wrong echo
in a PROBE's (R148, R150). A frame of another address is garbled. -/
def stationReply (addr : Nat) (s : State) (f : Addr → Bool → State → State) : State :=
  match s.awaiting with
  | .poll a sent =>
    endExchange (if addr = floorNumber a then validReply s a sent (f a) else missPoll s a)
  | .sweepOne _ => probeTurn s (some .notHello)
  | .sweepTwo _ _ => probeTurn s (some .notHello)
  | .probe _ => probeTurn s (some .notHello)
  | .none => s

/-- A garbled frame in whatever window stands (R146, R148, R150, R151). -/
def garbled (s : State) : State :=
  match s.awaiting with
  | .poll a _ => endExchange (missPoll s a)
  | _ => probeTurn s (some .garbled)

/-- A reply window that ends without a reply (R146, R148, R150, R151). -/
def missed (s : State) : State :=
  match s.awaiting with
  | .poll a _ => endExchange (missPoll s a)
  | _ => probeTurn s none

/-! ### Rounds (R150) -/

/-- The addresses after the last one visited in this round. -/
def laterAddrs (s : State) : List Addr :=
  allAddrs.filter fun a => match s.roundPos with
    | some b => decide (b < a)
    | none => true

/-- An address to visit in this round or the next. -/
def polled (s : State) (a : Addr) : Bool := isPolled (s.presence.get a).state

/-- The addresses that are ABSENT, ascending. -/
def absentAddrs (s : State) : List Addr := allAddrs.filter fun a => (s.presence.get a).state == .absent

/-- The address whose visit is due: the next of the round, or the first of a new round where the round has no
probe (R150). -/
def dueVisit (s : State) : Option Addr :=
  match (laterAddrs s).find? (polled s) with
  | some a => some a
  | none => if (absentAddrs s).isEmpty then allAddrs.find? (polled s) else none

/-- The ABSENT address whose probe is due, the round's visits made: the next above the one probed before, wrapping
from 16 to 1 (R150). -/
def dueProbe (s : State) : Option Addr :=
  match (laterAddrs s).find? (polled s) with
  | some _ => none
  | none =>
    let above := (absentAddrs s).find? fun a => match s.lastProbed with
      | some b => decide (b < a)
      | none => true
    match above with
    | some a => some a
    | none => (absentAddrs s).head?

/-- The FLC is free to begin an exchange: no sweep, no reply awaited. -/
def flcFree (s : State) : Bool := s.sweep == .idle && s.awaiting == .none

/-- A visit: at most one pending station message, then POLL (R150, R155). -/
def visitAddr (s : State) (a : Addr) : State :=
  let p := s.presence.get a
  let sent := firstMessage p
  { s with
    awaiting := .poll a sent
    roundPos := some a
    floorTx := (match sent with | some m => messageFrame a p m | none => []) ++ [.poll a] }

/-- The probe of an ABSENT address that ends a round (R150). -/
def probeAddr (s : State) (a : Addr) : State :=
  { s with awaiting := .probe a, lastProbed := some a, roundPos := none, floorTx := [.probe a Config.patternOne] }

end Sys2Proof.Machine
end

