-- ==== Sys2Proof/Machine/FloorReplies.lean ====
section
/-! DEFINITION. Replies on the floor link that carry no event: to a PROBE of the sweep or of the rotation, NOTHING
and HELLO to a POLL, garbled and missed replies (R146 to R153). -/

namespace Sys2Proof.Machine

/-- SWEEP_REPLY (R148). -/
def execSweepReply (reply : ProbeReply) (s : State) : Host.Outcome State Fault Refusal :=
  whenRunning s fun s => if awaitsSweep s.awaiting then probeTurn s (some reply) else s

/-- PROBE_REPLY (R150). -/
def execProbeReply (reply : ProbeReply) (s : State) : Host.Outcome State Fault Refusal :=
  whenRunning s fun s => if awaitsProbe s.awaiting then probeTurn s (some reply) else s

/-- NOTHING (R151). -/
def execNothing (addr : Nat) (s : State) : Host.Outcome State Fault Refusal :=
  whenRunning s fun s => stationReply addr s fun a lost s => returnIf lost s a

/-- HELLO (R153). -/
def execHello (addr : Nat) (token : U16) (caps : Capabilities) (s : State) : Host.Outcome State Fault Refusal :=
  whenRunning s fun s => stationReply addr s (takeHello token caps)

/-- GARBLED_REPLY (R146, R151). -/
def execGarbledReply (s : State) : Host.Outcome State Fault Refusal := whenRunning s garbled

/-- MISSED_REPLY (R146, R151). -/
def execMissedReply (s : State) : Host.Outcome State Fault Refusal := whenRunning s missed

end Sys2Proof.Machine
end

