-- ==== Sys2Proof/Machine/JobRequests.lean ====
section
/-! DEFINITION. END JOB and SET TIMERS (R58, R62). -/

namespace Sys2Proof.Machine

/-- END JOB by the station's state (R58). -/
def endJob (addr : Nat) (s : State) : Reply :=
  match floorAddr addr with
  | none => refuse .badRequest s
  | some a =>
    match (s.stations.get a).state with
    | .offline => refuse .wrongState s
    | .disabled => refuse .wrongState s
    | .idle => refuse .wrongState s
    | .authorizing => accept .none (declineToSlot s a .forced)
    | .active => accept .none (forceClose s a)
    | .held => accept .none (forceClose s a)
    | .jammed => accept .none (forceClose s a)
    | .detached => accept .none (forceClose s a)
    | .closing => accept .none s

/-- END_JOB (R58). -/
def execEndJob (req addr : Nat) (s : State) : Host.Outcome State Fault Refusal :=
  request .endJob req s (endJob addr)

/-- A timer setting after a request: kept where the value is absent, else clamped into its range (R62). -/
def newSetting (lo hi old : Nat) : Option Nat → Nat
  | none => old
  | some v => clamp lo hi v

/-- The six settings after a request (R62). -/
def newTimers (t : PerTimer Nat) (v : PerTimer (Option Nat)) : PerTimer Nat :=
  { authorization := newSetting 5 60 t.authorization v.authorization
    idle := newSetting 15 600 t.idle v.idle
    holdWait := newSetting 30 600 t.holdWait v.holdWait
    jam := newSetting 60 3600 t.jam v.jam
    drain := newSetting 10 120 t.drain v.drain
    reconnectGrace := newSetting 2 60 t.reconnectGrace v.reconnectGrace }

/-- SET TIMERS (R62). -/
def setTimers (values : PerTimer (Option Nat)) (s : State) : Reply :=
  let t := newTimers s.timers values
  accept (.timers t) { s with timers := t }

/-- SET_TIMERS (R62). -/
def execSetTimers (req : Nat) (values : PerTimer (Option Nat)) (s : State) : Host.Outcome State Fault Refusal :=
  request .setTimers req s (setTimers values)

end Sys2Proof.Machine
end

