-- ==== Sys2Proof/Machine/JournalRequests.lean ====
section
/-! DEFINITION. ADJUST ACCOUNT, READ JOURNAL and ACKNOWLEDGE JOURNAL (chapter 7). -/

namespace Sys2Proof.Machine

/-- A delta within −9,999,999 to +9,999,999 (R123). -/
def deltaInRange (d : Int) : Bool := decide (-Config.maxDelta ≤ d) && decide (d ≤ Config.maxDelta)

/-- An ADJUST ACCOUNT that passed its checks (R124). -/
def applyAdjust (n : AccountNo) (delta : Int) (reason : Nat) (s : State) : Reply :=
  let x := s.accounts.get n
  let balance := saturate (x.balance + delta)
  let applied := balance - x.balance
  let sequence := s.nextSeq
  let s := setAccount s n { x with balance, changed := true }
  let s := writeRecord s (.adjust { account := n, requested := delta, applied, reason, balance })
  let s := if 0 < applied then retryAccount s n else s
  let s := noticeLevel s
  accept (.adjusted sequence delta applied balance (available (s.accounts.get n))) s

/-- ADJUST ACCOUNT (R123, R124). -/
def adjustAccount (account : Nat) (delta : Int) (reason : Nat) (s : State) : Reply :=
  match accountNo account with
  | none => refuse .badRequest s
  | some n =>
    if !deltaInRange delta || 255 < reason then refuse .badRequest s
    else if !adjustableStatus (s.accounts.get n).status then refuse .noAccount s
    else if !journalHasRoom s then refuse .journalFull s
    else applyAdjust n delta reason s

/-- ADJUST_ACCOUNT (R123, R124). -/
def execAdjustAccount (req account : Nat) (delta : Int) (reason : Nat) (s : State) :
    Host.Outcome State Fault Refusal :=
  request .adjustAccount req s (adjustAccount account delta reason)

/-- READ JOURNAL (R126). -/
def readJournal (s : State) : Reply :=
  accept (.journal s.journal.length s.reservations (s.journal.take Config.journalReport)) s

/-- READ_JOURNAL (R126). -/
def execReadJournal (req : Nat) (s : State) : Host.Outcome State Fault Refusal :=
  request .readJournal req s readJournal

/-- The steps from one sequence number to another, from 65,535 on to 1 (R118, R127). -/
def sequenceSteps (head sequence : Nat) : Nat :=
  if head ≤ sequence then sequence - head else sequence + Config.lastSequence - head

/-- The sequence number of the head record. -/
def headSequence (j : List JournalRecord) : Option Nat := j.head?.map JournalRecord.sequence

/-- ACKNOWLEDGE JOURNAL (R127). -/
def acknowledgeJournal (sequence : Nat) (s : State) : Reply :=
  if sequence = 0 ∨ Config.lastSequence < sequence then refuse .badRequest s
  else
    match headSequence s.journal with
    | none => refuse .badSequence s
    | some h =>
      let steps := sequenceSteps h sequence
      if s.journal.length ≤ steps then refuse .badSequence s
      else
        let rest := s.journal.drop (steps + 1)
        accept (.acknowledged (steps + 1) (headSequence rest) rest.length) { s with journal := rest }

/-- ACKNOWLEDGE_JOURNAL (R127). -/
def execAcknowledgeJournal (req sequence : Nat) (s : State) : Host.Outcome State Fault Refusal :=
  request .acknowledgeJournal req s (acknowledgeJournal sequence)

end Sys2Proof.Machine
end

