-- ==== Sys2Proof/Machine/TableRequests.lean ====
section
/-! DEFINITION. The requests on the account table, the card map and the rate plans (chapter 1). -/

namespace Sys2Proof.Machine

/-! ### Accounts -/

/-- WRITE ACCOUNT on the record of a payload (R6). -/
def writeAccount (p : AccountPayload) (s : State) : Reply :=
  match regularNo p.number, loadedStatusOf p.status, planNo p.plan, rightsOf p.rights with
  | some n, some status, some plan, some rights =>
    if !balanceInRange p.balance then refuse .badRequest s
    else
      let x := s.accounts.get n
      if x.openJobs ≠ 0 then refuse .inUse s
      else
        let y : Account :=
          { x with status, balance := p.balance, creditLimit := min p.creditLimit Config.maxCreditLimit, plan,
                   discount := min p.discount Config.maxDiscount, rights, changed := false, guestTag := none }
        accept (.account n y) (setAccount s n y)
  | _, _, _, _ => refuse .badRequest s

/-- WRITE_ACCOUNT (R6). -/
def execWriteAccount (req : Nat) (record : AccountPayload) (s : State) : Host.Outcome State Fault Refusal :=
  request .writeAccount req s (writeAccount record)

/-- An optional plan field in range (R7). -/
def optPlan : Option Nat → Option (Option PlanNo)
  | none => some none
  | some n => (planNo n).map some

/-- An optional rights field that names only the six rights (R7). -/
def optRights : Option Byte → Option (Option Rights)
  | none => some none
  | some b => (rightsOf b).map some

/-- An account with the limits a request carries; a field left out keeps its value (R7). -/
def limitedAccount (x : Account) (limit : Option Nat) (plan : Option PlanNo) (discount : Option Nat)
    (rights : Option Rights) : Account :=
  { x with
    creditLimit := (limit.map fun n => min n Config.maxCreditLimit).getD x.creditLimit
    plan := plan.getD x.plan
    discount := (discount.map fun n => min n Config.maxDiscount).getD x.discount
    rights := rights.getD x.rights }

/-- SET ACCOUNT LIMITS (R7), with the retries of a risen available (R8, R85). -/
def setAccountLimits (account : Nat) (limit plan discount : Option Nat) (rights : Option Byte) (s : State) :
    Reply :=
  match regularNo account, optPlan plan, optRights rights with
  | some n, some plan, some rights =>
    let x := s.accounts.get n
    if !isLoaded x then refuse .notFound s
    else
      let y := limitedAccount x limit plan discount rights
      accept (.limits y.creditLimit y.plan y.discount y.rights)
        (retryIfRisen (available x) (setAccount s n y) n)
  | _, _, _ => refuse .badRequest s

/-- SET_ACCOUNT_LIMITS (R7, R8). -/
def execSetAccountLimits (req account : Nat) (creditLimit plan discount : Option Nat) (rights : Option Byte)
    (s : State) : Host.Outcome State Fault Refusal :=
  request .setAccountLimits req s (setAccountLimits account creditLimit plan discount rights)

/-- SET ACCOUNT STATUS to UNLOADED (R9): the record returns to its reset values. -/
def unloadAccount (n : AccountNo) (s : State) : Reply :=
  let x := s.accounts.get n
  if x.openJobs ≠ 0 then refuse .inUse s
  else if x.status = .unloaded then accept .none s
  else accept .none (setAccount s n (Account.reset .unloaded))

/-- SET ACCOUNT STATUS to OPEN or SUSPENDED (R9): a reopened record's HELD jobs are retried (R88). -/
def changeStatus (n : AccountNo) (status : AccountStatus) (s : State) : Reply :=
  let x := s.accounts.get n
  if x.status = .unloaded then refuse .notFound s
  else if x.status = status then accept .none s
  else
    let t := setAccount s n { x with status }
    accept .none (if status = .openAccount then retryAccount t n else t)

/-- SET ACCOUNT STATUS (R9). -/
def setAccountStatus (account status : Nat) (s : State) : Reply :=
  match regularNo account, regularStatusOf status with
  | some n, some .unloaded => unloadAccount n s
  | some n, some st => changeStatus n st s
  | _, _ => refuse .badRequest s

/-- SET_ACCOUNT_STATUS (R9). -/
def execSetAccountStatus (req account status : Nat) (s : State) : Host.Outcome State Fault Refusal :=
  request .setAccountStatus req s (setAccountStatus account status)

/-- READ ACCOUNT (R10). -/
def readAccount (account : Nat) (s : State) : Reply :=
  match accountNo account with
  | some n => accept (.accountRead n (s.accounts.get n) (available (s.accounts.get n))) s
  | none => refuse .badRequest s

/-- READ_ACCOUNT (R10). -/
def execReadAccount (req account : Nat) (s : State) : Host.Outcome State Fault Refusal :=
  request .readAccount req s (readAccount account)

/-- The 512 record numbers, ascending. -/
def allAccounts : List AccountNo := (List.range 512).filterMap accountNo

/-- The records whose changed flag is set, ascending (R11). -/
def changedNumbers (s : State) : List AccountNo := allAccounts.filter fun n => (s.accounts.get n).changed

/-- The changed flag of a record cleared (R11). -/
def clearChanged (s : State) (n : AccountNo) : State :=
  setAccount s n { s.accounts.get n with changed := false }

/-- CHANGED ACCOUNTS (R11). -/
def changedAccounts (s : State) : Reply :=
  let all := changedNumbers s
  let first := all.take Config.changedReport
  accept (.changed (decide (Config.changedReport < all.length)) first) (first.foldl clearChanged s)

/-- CHANGED_ACCOUNTS (R11). -/
def execChangedAccounts (req : Nat) (s : State) : Host.Outcome State Fault Refusal :=
  request .changedAccounts req s changedAccounts

/-! ### The card map -/

/-- The ceiling check of R15: a ceiling below the minimum charge of the plan of a loaded account. -/
def ceilingTooLow (s : State) (n : AccountNo) (ceiling : Option Nat) : Bool :=
  let x := s.accounts.get n
  let p := s.plans.get x.plan
  match ceiling with
  | some c => isLoaded x && p.loaded && decide (c < p.m)
  | none => false

/-- The way that WRITE CARD fills: the card's own, else the lowest free one (R14). -/
def writeWay (s : State) (card : Nat) : Option WayNo :=
  match wayOf s card with
  | some w => some w
  | none => freeWay s card

/-- WRITE CARD (R14, R15). -/
def writeCard (p : CardPayload) (s : State) : Reply :=
  match regularNo p.account, ceilingOf p.ceiling, flagOf p.gated with
  | some n, some ceiling, some gated =>
    if !cardInRange p.card || ceilingTooLow s n ceiling then refuse .badRequest s
    else
      match writeWay s p.card with
      | none => refuse .bucketFull s
      | some w =>
        let b := bucketOf p.card
        accept (.cardPlace b w)
          (setBucket s b ((s.cards.get b).set w (some { card := p.card, account := n, ceiling, gated })))
  | _, _, _ => refuse .badRequest s

/-- WRITE_CARD (R14). -/
def execWriteCard (req : Nat) (record : CardPayload) (s : State) : Host.Outcome State Fault Refusal :=
  request .writeCard req s (writeCard record)

/-- REMOVE CARD (R16). -/
def removeCard (card : Nat) (s : State) : Reply :=
  if !cardInRange card then refuse .badRequest s
  else
    match wayOf s card with
    | none => refuse .notFound s
    | some w => accept .none (setBucket s (bucketOf card) ((s.cards.get (bucketOf card)).set w none))

/-- REMOVE_CARD (R16). -/
def execRemoveCard (req card : Nat) (s : State) : Host.Outcome State Fault Refusal :=
  request .removeCard req s (removeCard card)

/-- READ CARD (R17). -/
def readCard (card : Nat) (s : State) : Reply :=
  if !cardInRange card then refuse .badRequest s
  else
    match wayOf s card, entryOf s card with
    | some w, some e => accept (.cardRead e (bucketOf card) w) s
    | _, _ => refuse .notFound s

/-- READ_CARD (R17). -/
def execReadCard (req card : Nat) (s : State) : Host.Outcome State Fault Refusal :=
  request .readCard req s (readCard card)

/-! ### Rate plans -/

/-- The fields of a plan to be loaded are in range (check 2 of R20). -/
def planFieldsOk (p : PlanPayload) : Bool :=
  decide (1 ≤ p.b1) && decide (p.b1 ≤ p.b2) && decide (p.b2 ≤ p.b3) && decide (p.b3 ≤ 65535)
    && p.rates.all (fun r => decide (r.t1 ≤ 65535) && decide (r.t2 ≤ 65535) && decide (r.t3 ≤ 65535)
      && decide (r.t4 ≤ 65535))
    && decide (p.m ≤ 9999) && holdInRange p.h && decide (p.m ≤ p.h)

/-- A loaded plan with the values of a payload (R20); its capture count is 0 by check 3. -/
def loadedPlan (p : PlanPayload) : Plan :=
  { loaded := true, b1 := p.b1, b2 := p.b2, b3 := p.b3, rates := p.rates, m := p.m, h := p.h, captures := 0 }

/-- WRITE PLAN (R20). -/
def writePlan (p : PlanPayload) (s : State) : Reply :=
  match planNo p.number, flagOf p.loaded with
  | some n, some load =>
    if load && !planFieldsOk p then refuse .badRequest s
    else if (s.plans.get n).captures ≠ 0 then refuse .inUse s
    else accept .none (setPlan s n (if load then loadedPlan p else Plan.reset))
  | _, _ => refuse .badRequest s

/-- WRITE_PLAN (R20). -/
def execWritePlan (req : Nat) (record : PlanPayload) (s : State) : Host.Outcome State Fault Refusal :=
  request .writePlan req s (writePlan record)

/-- READ PLAN (R21). -/
def readPlan (plan : Nat) (s : State) : Reply :=
  match planNo plan with
  | some n => accept (.planRead n (s.plans.get n)) s
  | none => refuse .badRequest s

/-- READ_PLAN (R21). -/
def execReadPlan (req plan : Nat) (s : State) : Host.Outcome State Fault Refusal :=
  request .readPlan req s (readPlan plan)

end Sys2Proof.Machine
end

