-- ==== Sys2Proof/Machine/LinkRequests.lean ====
section
/-! DEFINITION. The office link's own requests: identification and status (R163), RESCAN FLOOR (R149), PAUSE and
UNPAUSE (R160), the bulk-load window (R161, R162), panel text (R164), and frames that are no request (R157). -/

namespace Sys2Proof.Machine

/-! ### Identification and status (R163) -/

/-- IDENTIFY (R163). -/
def execIdentify (req : Nat) (s : State) : Host.Outcome State Fault Refusal :=
  request .identify req s (accept (.identity Config.vendorCode Config.partCode Config.revision))

/-- The figures of READ STATUS (R163); a sweep asked for counts as running (log entry 5). -/
def statusReport (s : State) : StatusReport :=
  { mode := s.mode
    freeVend := s.freeVend
    occupancy := s.journal.length
    reservations := s.reservations
    busyChannels := (allChannels.filter fun c => (s.channels.get c).busy.isSome).length
    queueLength := s.waitQueue.length
    freeGuests := (guestSlots.filter fun n => (s.accounts.get n).status == .free).length
    paused := s.paused
    sweeping := s.sweep != .idle
    notices := s.notices.length
    stations := allAddrs.map fun a => ((s.presence.get a).state, (s.stations.get a).state) }

/-- READ_STATUS (R163). -/
def execReadStatus (req : Nat) (s : State) : Host.Outcome State Fault Refusal :=
  request .readStatus req s fun s => accept (.shop (statusReport s)) s

/-- What READ STATION reports of an open job (R163). -/
def jobReport (j : Job) : JobReport :=
  { account := j.account, guest := j.guest, plan := j.plan, discount := j.discount, service := j.service,
    hold := j.hold, total := j.total, committed := committedTotal j, confirmed := j.confirmed,
    highest := j.highest, nextFeed := j.nextFeed, inFlight := j.inFlight.length, owed := owedRange j,
    charged := j.charged, freeVend := j.freeVend, duplicates := j.duplicates, writtenOff := j.writtenOff }

/-- The tag a station holds (R28, R163). -/
def tagHeld (s : State) (a : Addr) : Option Tag :=
  (channelOf s a).map fun c => { channel := c, generation := (s.channels.get c).generation }

/-- A station's place in the wait queue, counted from 1 (R163; log entry 13). -/
def queuePlace (s : State) (a : Addr) : Option Nat :=
  if s.waitQueue.contains a then some (s.waitQueue.idxOf a + 1) else none

/-- The figures of READ STATION (R163; log entry 13). -/
def stationReport (s : State) (a : Addr) : StationReport :=
  let r := s.stations.get a
  let p := s.presence.get a
  { presence := p.state, token := p.token, capabilities := p.capabilities, misses := p.misses, state := r.state,
    remembered := r.remembered, pendingEnd := r.pendingEnd, adminEnable := s.adminEnable.get a,
    effective := effectiveEnable s a, line := p.line, engine := r.engine, tag := tagHeld s a,
    queuePlace := queuePlace s a, job := r.job.map jobReport,
    wanted := if r.state = .held then r.wanted else none, timer := r.timer, jobClosed := p.jobClosed.isSome,
    cardResult := p.cardResult.isSome, resume := p.resume, panelCount := p.panel.length }

/-- READ STATION (R163). -/
def readStation (addr : Nat) (s : State) : Reply :=
  match floorAddr addr with
  | some a => accept (.station (stationReport s a)) s
  | none => refuse .badRequest s

/-- READ_STATION (R163). -/
def execReadStation (req addr : Nat) (s : State) : Host.Outcome State Fault Refusal :=
  request .readStation req s (readStation addr)

/-! ### RESCAN FLOOR, PAUSE, UNPAUSE -/

/-- RESCAN FLOOR (R149): the sweep starts once the visit in progress has ended (log entry 5). -/
def rescanFloor (s : State) : Reply :=
  if allAddrs.any (fun a => isBusy (s.stations.get a).state) || s.sweep != .idle then refuse .wrongState s
  else if s.awaiting = .none then accept .none (startSweep s)
  else accept .none { s with sweep := .requested }

/-- RESCAN_FLOOR (R149). -/
def execRescanFloor (req : Nat) (s : State) : Host.Outcome State Fault Refusal :=
  request .rescanFloor req s rescanFloor

/-- PAUSE (R160). -/
def execPause (req : Nat) (s : State) : Host.Outcome State Fault Refusal :=
  request .pause req s fun s => accept .none { s with paused := true }

/-- UNPAUSE (R160). -/
def execUnpause (req : Nat) (s : State) : Host.Outcome State Fault Refusal :=
  request .unpause req s fun s => accept .none { s with paused := false }

/-! ### The bulk-load window (R161, R162) -/

/-- OPEN WINDOW (R161); a window already open has been closed before (R162). -/
def openWindow (table start count : Nat) (s : State) : Reply :=
  match windowTableOf table with
  | none => refuse .badRequest s
  | some t =>
    if count = 0 ∨ 512 < count ∨ lastIndex t < start + count - 1 then refuse .badRequest s
    else accept .none { s with window := some { table := t, next := start, last := start + count - 1 } }

/-- OPEN_WINDOW (R161). -/
def execOpenWindow (req table start count : Nat) (s : State) : Host.Outcome State Fault Refusal :=
  request .openWindow req s (openWindow table start count)

/-- The write of a window record (R162); none where the body is no record of the window's table. -/
def windowWrite (t : WindowTable) (index : Nat) (record : WindowRecord) (s : State) : Option Reply :=
  match t, record with
  | .accounts, .account p => some (if p.number = index then writeAccount p s else refuse .badRequest s)
  | .cards, .card p => some (writeCard p s)
  | .plans, .plan p => some (if p.number = index then writePlan p s else refuse .badRequest s)
  | _, _ => none

/-- The window after the record at its next index (R162). -/
def advanceWindow (w : Window) : Option Window :=
  if w.next = w.last then none else some { w with next := w.next + 1 }

/-- WINDOW DATA (R162). A body too short for an index has none to differ from the next index: it is no record of the
window's table. -/
def windowData (index : Nat) (record : WindowRecord) (s : State) : Reply :=
  match s.window with
  | none => refuse .windowError s
  | some w =>
    if record.hasIndex && index != w.next then { status := .windowError, figures := .windowIndex w.next, state := s }
    else
      match windowWrite w.table index record s with
      | none => refuse .windowError { s with window := none }
      | some r =>
        { status := r.status, figures := .windowIndex index, state := { r.state with window := advanceWindow w } }

/-- WINDOW_DATA (R162): the one management request that leaves an open window open. -/
def execWindowData (req index : Nat) (record : WindowRecord) (s : State) : Host.Outcome State Fault Refusal :=
  whenRunning s fun s =>
    let r := windowData index record s
    respond r.state OfficeKind.windowData.code req r.status r.figures

/-! ### Panel text (R164) -/

/-- A character of panel text: a code from 32 to 126 (R164). -/
def isPanelChar (b : Byte) : Bool := decide (32 ≤ b.toNat) && decide (b.toNat ≤ 126)

/-- A panel text within the limits of R164. -/
def panelOk (p : PanelPayload) : Bool :=
  decide (p.time ≤ 60) && decide (p.one.length ≤ 20) && decide (p.two.length ≤ 20)
    && p.one.all isPanelChar && p.two.all isPanelChar

/-- Panel text for one station (R156, R164). -/
def panelToOne (a : Addr) (p : PanelPayload) (s : State) : Reply :=
  if !isPolled (s.presence.get a).state then refuse .absent s
  else if panelRoom s a then accept .none (placePanel s a p)
  else refuse .panelBusy s

/-- Panel text for every station (R164). -/
def panelToAll (p : PanelPayload) (s : State) : Reply :=
  let as := allAddrs.filter (panelRoom s)
  accept (.placed as.length) (as.foldl (fun s a => placePanel s a p) s)

/-- A frame of kind PANEL TEXT by its destination (R157, R164): destination 0 has no panel text, and such a frame
closes an open window (R162). -/
def panelText (dest : Nat) (p : PanelPayload) (s : State) : Reply :=
  if dest = 0 then refuse .badRequest { s with window := none }
  else if !panelOk p then refuse .badRequest s
  else if dest = 255 then panelToAll p s
  else
    match floorAddr dest with
    | some a => panelToOne a p s
    | none => refuse .badRequest s

/-- PANEL_TEXT (R164). -/
def execPanelText (req dest : Nat) (text : PanelPayload) (s : State) : Host.Outcome State Fault Refusal :=
  whenRunning s fun s =>
    let r := panelText dest text s
    respond r.state OfficeKind.panelText.code req r.status r.figures

/-! ### Frames that are no request (R157) -/

/-- DISCARDED_FRAME (R157): no response, and the bulk-load window stays as it is. -/
def execDiscardedFrame (s : State) : Host.Outcome State Fault Refusal := whenRunning s fun s => s

/-- A frame closes an open window: to destination 0, of a kind other than WINDOW DATA (R162). -/
def closesWindow (dest kind : Nat) : Bool := dest == 0 && kind != OfficeKind.windowData.code

/-- BAD_REQUEST_FRAME (R157, R162). -/
def execBadRequestFrame (dest kind req : Nat) (s : State) : Host.Outcome State Fault Refusal :=
  whenRunning s fun s =>
    respond (if closesWindow dest kind then { s with window := none } else s) kind req .badRequest .none

end Sys2Proof.Machine
end

