-- ==== Sys2Proof/Machine/MeterRequests.lean ====
section
/-! DEFINITION. READ METERS and PRESET METERS (R135, R136). -/

namespace Sys2Proof.Machine

/-- READ METERS (R135). -/
def readMeters (addr : Nat) (s : State) : Reply :=
  match floorAddr addr with
  | some a => accept (.metersRead a (s.meters.get a)) s
  | none => refuse .badRequest s

/-- READ_METERS (R135). -/
def execReadMeters (req addr : Nat) (s : State) : Host.Outcome State Fault Refusal :=
  request .readMeters req s (readMeters addr)

/-- A meter after a preset: kept where the value is absent, else the value, at most 99,999,999 (R136). -/
def presetMeter (old : Nat) : Option Nat → Nat
  | none => old
  | some v => min v (Config.meterModulus - 1)

/-- The ten meters after a preset (R136). -/
def presetAll (m : Meters Nat) (v : Meters (Option Nat)) : Meters Nat :=
  { classes :=
      { sMono := presetMeter m.classes.sMono v.classes.sMono
        sColour := presetMeter m.classes.sColour v.classes.sColour
        sFull := presetMeter m.classes.sFull v.classes.sFull
        lMono := presetMeter m.classes.lMono v.classes.lMono
        lColour := presetMeter m.classes.lColour v.classes.lColour
        lFull := presetMeter m.classes.lFull v.classes.lFull }
    service := presetMeter m.service v.service
    duplicate := presetMeter m.duplicate v.duplicate
    writtenOff := presetMeter m.writtenOff v.writtenOff
    jams := presetMeter m.jams v.jams }

/-- PRESET METERS (R136). -/
def presetMeters (addr : Nat) (values : Meters (Option Nat)) (s : State) : Reply :=
  match floorAddr addr with
  | none => refuse .badRequest s
  | some a =>
    if hasOpenJob (s.stations.get a).state then refuse .inUse s
    else
      let m := presetAll (s.meters.get a) values
      accept (.metersPreset m) (setMeters s a m)

/-- PRESET_METERS (R136). -/
def execPresetMeters (req addr : Nat) (values : Meters (Option Nat)) (s : State) :
    Host.Outcome State Fault Refusal :=
  request .presetMeters req s (presetMeters addr values)

end Sys2Proof.Machine
end

