-- ==== Sys2Proof/Machine/ModeRequests.lean ====
section
/-! DEFINITION. SET MODE, SET FREE VEND and SET STATION ENABLE (chapter 9). -/

namespace Sys2Proof.Machine

/-- The stations in AUTHORIZING, ascending. -/
def authorizingAddrs (s : State) : List Addr := allAddrs.filter fun a => (s.stations.get a).state == .authorizing

/-- Every authorization ended with DECLINED MODE, the wait queue emptied before any channel is freed (R41, R142
part 2). -/
def endAuthorizations (s : State) : State :=
  (authorizingAddrs s).foldl (fun s a => declineToSlot s a .mode) { s with waitQueue := [] }

/-- The stations with an open job that a mode does not admit (R143). MODEL'S CHOICE, log entry 31: a job that was
CLOSING when the shop closed and is DETACHED since is among them at a change out of CLOSED, is closed by its state and
counted, although R143 expects no close at such a change. -/
def notAdmitted (s : State) (m : ShopMode) : List Addr :=
  allAddrs.filter fun a =>
    hasOpenJob (s.stations.get a).state
      && match (s.stations.get a).job with
        | some j => !jobAdmitted m j
        | none => false

/-- The forced closes of a list of stations, in the free order (R142 part 3; log entry 2). -/
def forceAll (s : State) (as : List Addr) : State := (freeOrder s as).foldl forceClose (tickOrder s as)

/-- The change is into or out of CLOSED (R139, R142 part 4). -/
def crossesClosed (old new : ShopMode) : Bool := (old == .closed) != (new == .closed)

/-- A SET MODE that changes the mode (R142). -/
def changeMode (m : ShopMode) (s : State) : Reply :=
  let previous := s.mode
  let ended := (authorizingAddrs s).length
  let s := endAuthorizations { s with mode := m }
  let as := notAdmitted s m
  let forced := (as.filter fun a => forceCloses (s.stations.get a).state).length
  let s := forceAll s as
  let s := if crossesClosed previous m then allAddrs.foldl takeRest s else s
  accept (.modeChange previous m ended forced) s

/-- SET MODE (R142). -/
def setMode (mode : Nat) (s : State) : Reply :=
  match modeOf mode with
  | none => refuse .badRequest s
  | some m => if m = s.mode then accept (.modeChange m m 0 0) s else changeMode m s

/-- SET_MODE (R142, R143). -/
def execSetMode (req mode : Nat) (s : State) : Host.Outcome State Fault Refusal :=
  request .setMode req s (setMode mode)

/-- SET FREE VEND (R144). -/
def setFreeVend (value : Nat) (s : State) : Reply :=
  match flagOf value with
  | none => refuse .badRequest s
  | some b => accept (.freeVend b) { s with freeVend := b }

/-- SET_FREE_VEND (R144). -/
def execSetFreeVend (req value : Nat) (s : State) : Host.Outcome State Fault Refusal :=
  request .setFreeVend req s (setFreeVend value)

/-- MC's action where an admin enable is cleared, by the station's state (R145). -/
def disableStation (s : State) (a : Addr) : State :=
  match (s.stations.get a).state with
  | .offline => s
  | .disabled => s
  | .idle => takeRest s a
  | .authorizing => declineToSlot s a .stationOff
  | .active => forceClose s a
  | .held => forceClose s a
  | .jammed => forceClose s a
  | .detached => forceClose s a
  | .closing => s

/-- MC's action where an admin enable is set: a DISABLED station may become IDLE (R145). -/
def enableStation (s : State) (a : Addr) : State :=
  if (s.stations.get a).state = .disabled then takeRest s a else s

/-- The response of SET STATION ENABLE (R145). -/
def enableReply (s : State) (a : Addr) : Reply :=
  accept (.stationEnable a (s.adminEnable.get a) (effectiveEnable s a) (s.stations.get a).state) s

/-- SET STATION ENABLE (R145). -/
def setStationEnable (addr value : Nat) (s : State) : Reply :=
  match floorAddr addr, flagOf value with
  | some a, some b =>
    if s.adminEnable.get a = b then enableReply s a
    else
      let s := { s with adminEnable := s.adminEnable.set a b }
      enableReply (if b then enableStation s a else disableStation s a) a
  | _, _ => refuse .badRequest s

/-- SET_STATION_ENABLE (R145). -/
def execSetStationEnable (req addr value : Nat) (s : State) : Host.Outcome State Fault Refusal :=
  request .setStationEnable req s (setStationEnable addr value)

end Sys2Proof.Machine
end

