-- ==== Sys2Proof/Machine/Resets.lean ====
section
/-! DEFINITION. RESET FULL, RESET FLOOR and the reset pin (R165, R174 and the reset rules of each block). -/

namespace Sys2Proof.Machine

/-- Every block at its values after a FULL reset, with the straps as the pins stand and read (R165, R174): the
sweep has started. The model's own fields are kept. -/
def fullReset (s : State) : State :=
  { State.reset with
    straps := s.straps
    rate := rateOf s.straps
    officeTx := s.officeTx
    freeTick := s.freeTick
    pending := s.pending }

/-- The waiting responses sent at once (R165). -/
def sendAll (s : State) : State :=
  if s.responses.isEmpty then s
  else { s with responses := [], officeTx := s.responses.map OfficeFrame.response }

/-- RESET_FULL (R165): responses to earlier requests go out before the reset; its own is the first frame after. -/
def execResetFull (req : Nat) (s : State) : Host.Outcome State Fault Refusal :=
  request .reset req s fun s => accept .none (fullReset (sendAll s))

/-- The stations with an open job. -/
def openAddrs (s : State) : List Addr := allAddrs.filter fun a => hasOpenJob (s.stations.get a).state

/-- Every open job closed with CONTROLLER_RESET, without retries; its JOB CLOSED is not delivered (step 1 of R63,
R95), in the free order (log entry 2). -/
def closeAll (s : State) : State :=
  (freeOrder s (openAddrs s)).foldl (fun s a => (closeJob s a .controllerReset false).1) (tickOrder s (openAddrs s))

/-- Every channel FREE with its generation kept, the wait queue empty (step 2 of R63, R42). -/
def freeChannels (s : State) : State :=
  allChannels.foldl (fun s c => setChannel s c { s.channels.get c with busy := none }) { s with waitQueue := [] }

/-- The floor taken down and swept (step 3 of R63, R147, R148). -/
def floorDown (s : State) : State :=
  startSweep { s with stations := Table.fill 16 Station.reset, presence := Table.fill 16 PresenceRecord.reset }

/-- RESET_FLOOR (R63, R165). -/
def execResetFloor (req : Nat) (s : State) : Host.Outcome State Fault Refusal :=
  request .reset req s fun s => accept .none (floorDown (freeChannels (closeAll s)))

/-- RESET_PIN_ASSERT (R174): every block at its FULL reset values, no sweep and no frame, while the pin is low. The
straps are read at the release (log entry 21). -/
def execResetPinAssert (s : State) : Host.Outcome State Fault Refusal :=
  .next { fullReset s with
    rate := s.rate, resetLow := true, sweep := .idle, awaiting := .none, floorTx := s.floorTx }

/-- RESET_PIN_RELEASE (R174): the straps are read and the sweep starts. -/
def execResetPinRelease (s : State) : Host.Outcome State Fault Refusal :=
  .next (if s.resetLow then fullReset s else s)

end Sys2Proof.Machine
end

