-- ==== Sys2Proof/Machine/StationEvents.lean ====
section
/-! DEFINITION. The station events, as EVENT replies to a POLL (R154). -/

namespace Sys2Proof.Machine

/-- CARD (R23). A card number out of its range makes the frame garbled (R146). -/
def execCard (addr : Nat) (toggle : Bool) (number : Nat) (s : State) : Host.Outcome State Fault Refusal :=
  whenRunning s fun s =>
    if cardInRange number then stationReply addr s (takeEvent toggle .card (takeCard number)) else garbled s

/-- CANCEL (R34). -/
def execCancel (addr : Nat) (toggle : Bool) (s : State) : Host.Outcome State Fault Refusal :=
  whenRunning s fun s => stationReply addr s (takeEvent toggle .cancel takeCancel)

/-- FEED (R48 to R50). -/
def execFeed (addr : Nat) (toggle : Bool) (sheet : U16) (sides : Sides) (s : State) :
    Host.Outcome State Fault Refusal :=
  whenRunning s fun s => stationReply addr s (takeEvent toggle .feed (takeFeed sheet sides))

/-- DELIVERED (R51, R52). -/
def execDelivered (addr : Nat) (toggle : Bool) (sheet : U16) (s : State) : Host.Outcome State Fault Refusal :=
  whenRunning s fun s => stationReply addr s (takeEvent toggle .delivered (takeDelivered sheet))

/-- JAM (R96, R99, R100). -/
def execJam (addr : Nat) (toggle : Bool) (location : Byte) (s : State) : Host.Outcome State Fault Refusal :=
  whenRunning s fun s => stationReply addr s (takeEvent toggle .jam (takeJam (.location location)))

/-- RECOVERED (R105 to R109). -/
def execRecovered (addr : Nat) (toggle : Bool) (restart : U16) (s : State) :
    Host.Outcome State Fault Refusal :=
  whenRunning s fun s => stationReply addr s (takeEvent toggle .recovered (takeRecovered restart))

/-- STATUS (R103). -/
def execStatus (addr : Nat) (toggle : Bool) (flags : EngineFlags) (s : State) :
    Host.Outcome State Fault Refusal :=
  whenRunning s fun s => stationReply addr s (takeEvent toggle .status (takeStatus flags))

/-- FINISH (R54). -/
def execFinish (addr : Nat) (toggle : Bool) (s : State) : Host.Outcome State Fault Refusal :=
  whenRunning s fun s => stationReply addr s (takeEvent toggle .finish takeFinish)

end Sys2Proof.Machine
end

