-- ==== Sys2Proof/Machine/TimerEvents.lean ====
section
/-! DEFINITION. The expiries of the six station timers and of the loss timer. A timer that does not run does not
expire (log entries 4 and 19). -/

namespace Sys2Proof.Machine

/-- The expiry of a station timer: `f` where that timer runs. -/
def expire (k : TimerKind) (addr : Nat) (s : State) (f : State → Addr → State) :
    Host.Outcome State Fault Refusal :=
  whenRunning s fun s => atAddr addr s fun a => if timerRuns s a k then f s a else s

/-- AUTHORIZATION_TIMER_EXPIRY (R33): DECLINED TIMEOUT. -/
def execAuthorizationTimerExpiry (addr : Nat) (s : State) : Host.Outcome State Fault Refusal :=
  expire .authorization addr s fun s a => declineToSlot s a .timeout

/-- IDLE_TIMER_EXPIRY (R53): CLOSING with end reason IDLE. -/
def execIdleTimerExpiry (addr : Nat) (s : State) : Host.Outcome State Fault Refusal :=
  expire .idle addr s fun s a => beginClosingToSlot s a .idle

/-- HOLD_WAIT_TIMER_EXPIRY (R84): CLOSING with end reason FUNDS. -/
def execHoldWaitTimerExpiry (addr : Nat) (s : State) : Host.Outcome State Fault Refusal :=
  expire .holdWait addr s fun s a => beginClosingToSlot s a .funds

/-- JAM_TIMER_EXPIRY (R111): the job closes JAM_ABANDONED. -/
def execJamTimerExpiry (addr : Nat) (s : State) : Host.Outcome State Fault Refusal :=
  expire .jam addr s fun s a => closeToSlot s a .jamAbandoned

/-- DRAIN_TIMER_EXPIRY (R56): the job closes with its pending end reason. -/
def execDrainTimerExpiry (addr : Nat) (s : State) : Host.Outcome State Fault Refusal :=
  expire .drain addr s fun s a => closeToSlot s a (pendingReason s a)

/-- RECONNECT_GRACE_EXPIRY (R61): the job closes STATION_LOST. -/
def execReconnectGraceExpiry (addr : Nat) (s : State) : Host.Outcome State Fault Refusal :=
  expire .reconnectGrace addr s fun s a => closeToSlot s a .stationLost

/-- LOSS_TIMER_EXPIRY (R152): a LOST address becomes ABSENT and its record is cleared. MODEL'S CHOICE, log entry 33: so
it does during a sweep that has not reached the address yet, although R148 has such an address keep its presence. -/
def execLossTimerExpiry (addr : Nat) (s : State) : Host.Outcome State Fault Refusal :=
  whenRunning s fun s => atAddr addr s fun a =>
    if (s.presence.get a).state = .lost ∧ (s.presence.get a).lossTimer.isSome then foundMissing s a .absent else s

end Sys2Proof.Machine
end

