-- ==== Sys2Proof/Machine/Transmit.lean ====
section
/-! DEFINITION. What the two link controllers send when their lines are free: responses and notices (R158, R159),
visits and the rotation's probe (R150). -/

namespace Sys2Proof.Machine

/-- SEND_RESPONSE (R158): the oldest waiting response. -/
def execSendResponse (s : State) : Host.Outcome State Fault Refusal :=
  whenRunning s fun s =>
    match s.responses with
    | [] => s
    | r :: q => { s with responses := q, officeTx := [.response r] }

/-- The contents of a notice at its sending (R104, R129, R159). -/
def readNotice (s : State) : NoticeEntry → Notice
  | .authRequest r => .authRequest r
  | .stationStatus a =>
    .stationStatus a (s.stations.get a).state (s.stations.get a).engine (s.meters.get a).jams
  | .journalLevel =>
    .journalLevel s.journal.length s.reservations (freeSlots s) (headSequence s.journal)
      (s.journal.getLast?.map JournalRecord.sequence)

/-- The engine status with its latches clear. -/
def clearLatches (e : EngineStatus) : EngineStatus :=
  { e with doorLatch := false, paperLatch := false, tonerLatch := false }

/-- Sending a STATION_STATUS clears the station's latches (R104). -/
def noticeSent (s : State) : NoticeEntry → State
  | .stationStatus a => setStation s a { s.stations.get a with engine := clearLatches (s.stations.get a).engine }
  | .authRequest _ => s
  | .journalLevel => s

/-- SEND_NOTICE (R158): the head of the notice queue, when no response waits and notices are not paused. -/
def execSendNotice (s : State) : Host.Outcome State Fault Refusal :=
  whenRunning s fun s =>
    if !s.responses.isEmpty || s.paused then s
    else
      match s.notices with
      | [] => s
      | e :: q => noticeSent { s with notices := q, officeTx := [.notice (readNotice s e)] } e

/-- VISIT (R150): the visit that is due. -/
def execVisit (s : State) : Host.Outcome State Fault Refusal :=
  whenRunning s fun s =>
    if flcFree s then
      match dueVisit s with
      | some a => visitAddr s a
      | none => s
    else s

/-- ABSENT_PROBE (R150): the probe that ends a round. -/
def execAbsentProbe (s : State) : Host.Outcome State Fault Refusal :=
  whenRunning s fun s =>
    if flcFree s then
      match dueProbe s with
      | some a => probeAddr s a
      | none => s
    else s

end Sys2Proof.Machine
end

