-- ==== Sys2Proof/Machine/Dispatch.lean ====
section
/-! DEFINITION. The effect of every command: one arm per row of spec/opcode_table.json. -/

namespace Sys2Proof.Machine

/-- The effect of a command on everything but the queue of commands. -/
def exec (i : Instr) (s : State) : Host.Outcome State Fault Refusal :=
  match i with
  | .identify req => Sys2Proof.Machine.execIdentify req s
  | .readStatus req => Sys2Proof.Machine.execReadStatus req s
  | .readStation req addr => Sys2Proof.Machine.execReadStation req addr s
  | .writeAccount req record => Sys2Proof.Machine.execWriteAccount req record s
  | .setAccountLimits req account creditLimit plan discount rights => Sys2Proof.Machine.execSetAccountLimits req account creditLimit plan discount rights s
  | .setAccountStatus req account status => Sys2Proof.Machine.execSetAccountStatus req account status s
  | .readAccount req account => Sys2Proof.Machine.execReadAccount req account s
  | .changedAccounts req => Sys2Proof.Machine.execChangedAccounts req s
  | .adjustAccount req account delta reason => Sys2Proof.Machine.execAdjustAccount req account delta reason s
  | .writeCard req record => Sys2Proof.Machine.execWriteCard req record s
  | .removeCard req card => Sys2Proof.Machine.execRemoveCard req card s
  | .readCard req card => Sys2Proof.Machine.execReadCard req card s
  | .writePlan req record => Sys2Proof.Machine.execWritePlan req record s
  | .readPlan req plan => Sys2Proof.Machine.execReadPlan req plan s
  | .approveAccount req tag account hold => Sys2Proof.Machine.execApproveAccount req tag account hold s
  | .approveGuest req tag amount plan rights => Sys2Proof.Machine.execApproveGuest req tag amount plan rights s
  | .decline req tag reason => Sys2Proof.Machine.execDecline req tag reason s
  | .endJob req addr => Sys2Proof.Machine.execEndJob req addr s
  | .setTimers req values => Sys2Proof.Machine.execSetTimers req values s
  | .readJournal req => Sys2Proof.Machine.execReadJournal req s
  | .acknowledgeJournal req sequence => Sys2Proof.Machine.execAcknowledgeJournal req sequence s
  | .readMeters req addr => Sys2Proof.Machine.execReadMeters req addr s
  | .presetMeters req addr values => Sys2Proof.Machine.execPresetMeters req addr values s
  | .setMode req mode => Sys2Proof.Machine.execSetMode req mode s
  | .setFreeVend req value => Sys2Proof.Machine.execSetFreeVend req value s
  | .setStationEnable req addr value => Sys2Proof.Machine.execSetStationEnable req addr value s
  | .rescanFloor req => Sys2Proof.Machine.execRescanFloor req s
  | .pause req => Sys2Proof.Machine.execPause req s
  | .unpause req => Sys2Proof.Machine.execUnpause req s
  | .openWindow req table start count => Sys2Proof.Machine.execOpenWindow req table start count s
  | .windowData req index record => Sys2Proof.Machine.execWindowData req index record s
  | .resetFull req => Sys2Proof.Machine.execResetFull req s
  | .resetFloor req => Sys2Proof.Machine.execResetFloor req s
  | .panelText req dest text => Sys2Proof.Machine.execPanelText req dest text s
  | .discardedFrame => Sys2Proof.Machine.execDiscardedFrame s
  | .badRequestFrame dest kind req => Sys2Proof.Machine.execBadRequestFrame dest kind req s
  | .resetPinAssert => Sys2Proof.Machine.execResetPinAssert s
  | .resetPinRelease => Sys2Proof.Machine.execResetPinRelease s
  | .sendResponse => Sys2Proof.Machine.execSendResponse s
  | .sendNotice => Sys2Proof.Machine.execSendNotice s
  | .visit => Sys2Proof.Machine.execVisit s
  | .sweepReply reply => Sys2Proof.Machine.execSweepReply reply s
  | .probeReply reply => Sys2Proof.Machine.execProbeReply reply s
  | .nothing addr => Sys2Proof.Machine.execNothing addr s
  | .hello addr token caps => Sys2Proof.Machine.execHello addr token caps s
  | .garbledReply => Sys2Proof.Machine.execGarbledReply s
  | .missedReply => Sys2Proof.Machine.execMissedReply s
  | .card addr toggle number => Sys2Proof.Machine.execCard addr toggle number s
  | .cancel addr toggle => Sys2Proof.Machine.execCancel addr toggle s
  | .feed addr toggle sheet sides => Sys2Proof.Machine.execFeed addr toggle sheet sides s
  | .delivered addr toggle sheet => Sys2Proof.Machine.execDelivered addr toggle sheet s
  | .jam addr toggle location => Sys2Proof.Machine.execJam addr toggle location s
  | .recovered addr toggle restart => Sys2Proof.Machine.execRecovered addr toggle restart s
  | .status addr toggle flags => Sys2Proof.Machine.execStatus addr toggle flags s
  | .finish addr toggle => Sys2Proof.Machine.execFinish addr toggle s
  | .authorizationTimerExpiry addr => Sys2Proof.Machine.execAuthorizationTimerExpiry addr s
  | .idleTimerExpiry addr => Sys2Proof.Machine.execIdleTimerExpiry addr s
  | .holdWaitTimerExpiry addr => Sys2Proof.Machine.execHoldWaitTimerExpiry addr s
  | .jamTimerExpiry addr => Sys2Proof.Machine.execJamTimerExpiry addr s
  | .drainTimerExpiry addr => Sys2Proof.Machine.execDrainTimerExpiry addr s
  | .reconnectGraceExpiry addr => Sys2Proof.Machine.execReconnectGraceExpiry addr s
  | .lossTimerExpiry addr => Sys2Proof.Machine.execLossTimerExpiry addr s
  | .absentProbe => Sys2Proof.Machine.execAbsentProbe s

end Sys2Proof.Machine
end

