-- ==== Sys2Proof/Machine/Wire.lean ====
section
/-! DEFINITION. The bytes of everything the ZC416 sends: responses (R169), notices (R173), records (R171, R172) and
floor frames (R170), with the codes of R166 and the envelopes of R168. -/

namespace Sys2Proof.Machine

/-! ### Fields and codes (R166, R170) -/

/-- An unsigned field of `w` bytes (R166); a count too large for it has free bytes (log entry 14). -/
def putNum (w n : Nat) : List Byte :=
  if fits w n then toBE w n else (List.range w).map (Config.overflowByte w n)

/-- A flag as a byte. -/
def putFlag (b : Bool) : List Byte := toBE 1 b.toNat

/-- A READ STATION field with its presence byte; an absent one carries nothing more (R169; log entry 25). -/
def putOpt : Option (List Byte) → List Byte
  | none => [0]
  | some bs => 1 :: bs

/-- The nine station states in code order (R43, R166). -/
def stationStateOrder : List StationState :=
  [.offline, .disabled, .idle, .authorizing, .active, .held, .jammed, .closing, .detached]

/-- The presence states in code order (R166). -/
def presenceOrder : List Presence := [.present, .lost, .absent, .conflict]

/-- The end reasons in code order (R166). -/
def endReasonOrder : List EndReason :=
  [.finished, .idle, .funds, .jamAbandoned, .forced, .stationLost, .stationReset, .controllerReset]

/-- The station timers in code order (R166). -/
def timerOrder : List TimerKind := [.authorization, .idle, .holdWait, .jam, .drain, .reconnectGrace]

/-- The event kinds in code order (R166). -/
def eventOrder : List EventKind := [.card, .cancel, .feed, .delivered, .jam, .recovered, .status, .finish]

/-- The status codes in code order (11.1.1, R166). -/
def statusOrder : List Status :=
  [.ok, .badRequest, .notFound, .noAccount, .inUse, .bucketFull, .journalFull, .void, .absent, .panelBusy,
   .wrongState, .badSequence, .windowError]

/-- The code of a decline reason: its place in Table 2-1 (R166). -/
def declineCode : DeclineReason → Nat
  | .mode => 0
  | .noAccount => 1
  | .suspended => 2
  | .noRights => 3
  | .noPlan => 4
  | .journalFull => 5
  | .funds => 6
  | .stationOff => 7
  | .noGuestSlot => 8
  | .office _ => 9
  | .cancelled => 10
  | .timeout => 11
  | .stationLost => 12
  | .stationReset => 13
  | .forced => 14

/-- A last jam cause: a location, 256 for ORDER, 65,535 for none (R173). -/
def jamCauseNumber : JamCause → Nat
  | .none => 65535
  | .location code => code.toNat
  | .order => 256

/-- The last jam cause as an item of READ STATION: absent when there is none (R163; log entry 13). -/
def jamCauseItem : JamCause → Option (List Byte)
  | .none => none
  | .location code => some (putNum 2 code.toNat)
  | .order => some (putNum 2 256)

/-- Engine values and latches as one byte (R173). -/
def engineByte (e : EngineStatus) : Byte :=
  setByte [e.flags.doorOpen, e.flags.engineReady, e.flags.paperOut, e.flags.tonerLow,
           e.doorLatch, e.paperLatch, e.tonerLatch]

/-- A tag or the "none" value 65,535 (R171, R172). -/
def tagField : Option Tag → Nat
  | some t => tagNumber t
  | none => 65535

/-- One count per class, three bytes each, in class order. -/
def classCounts (v : PerClass Nat) : List Byte := v.list.flatMap (putNum 3)

/-- The ten meters, four bytes each, in the order of R131 (R169). -/
def meterFields (m : Meters Nat) : List Byte :=
  m.classes.list.flatMap (putNum 4) ++ putNum 4 m.service ++ putNum 4 m.duplicate ++ putNum 4 m.writtenOff
    ++ putNum 4 m.jams

/-! ### Records (R171, R172) -/

/-- An account record (R171). -/
def accountFields (n : AccountNo) (a : Account) : List Byte :=
  putNum 2 n.val ++ putNum 1 (accountStatusOrder.idxOf a.status) ++ toSigned a.balance ++ putNum 4 a.creditLimit
    ++ putNum 1 a.plan.val ++ putNum 2 a.discount ++ [rightsByte a.rights]

/-- An account record with the fields READ ACCOUNT appends (R171). -/
def accountReadFields (n : AccountNo) (a : Account) (available : Int) : List Byte :=
  accountFields n a ++ putNum 4 a.holdsTotal ++ putNum 1 a.openJobs ++ toSigned available ++ putFlag a.changed
    ++ putNum 2 (tagField a.guestTag)

/-- A card record (R171). -/
def cardFields (e : CardEntry) : List Byte :=
  putNum 8 e.card ++ putNum 2 e.account.val ++ putNum 3 (e.ceiling.getD 0) ++ putFlag e.gated

/-- A plan record (R171). -/
def planFields (n : PlanNo) (p : Plan) : List Byte :=
  putNum 1 n.val ++ putFlag p.loaded ++ putNum 2 p.b1 ++ putNum 2 p.b2 ++ putNum 2 p.b3
    ++ p.rates.list.flatMap (fun r => putNum 2 r.t1 ++ putNum 2 r.t2 ++ putNum 2 r.t3 ++ putNum 2 r.t4)
    ++ putNum 2 p.m ++ putNum 3 p.h

/-- A JOB record (R172). -/
def jobFields (sequence : Nat) (r : JobRecord) : List Byte :=
  putNum 2 sequence ++ putNum 1 0 ++ putNum 1 (floorNumber r.station) ++ putNum 2 r.account.val
    ++ [setByte [r.guest, r.service, r.minApplied]] ++ putNum 2 (tagField r.guestTag) ++ putNum 1 r.plan.val
    ++ putNum 2 r.discount ++ classCounts r.charged ++ putNum 3 r.freeVend ++ putNum 3 r.duplicates
    ++ putNum 2 r.writtenOff ++ putNum 4 r.total ++ putNum 4 r.discounted ++ putNum 3 r.charge
    ++ putNum 3 r.finalHold ++ putNum 1 (endReasonOrder.idxOf r.reason) ++ toSigned r.balance

/-- An ADJUST record (R172). -/
def adjustFields (sequence : Nat) (r : AdjustRecord) : List Byte :=
  putNum 2 sequence ++ putNum 1 1 ++ putNum 2 r.account.val ++ toSigned r.requested ++ toSigned r.applied
    ++ putNum 1 r.reason ++ toSigned r.balance

/-- A journal record (R172). -/
def recordFields (r : JournalRecord) : List Byte :=
  match r.body with
  | .job j => jobFields r.sequence j
  | .adjust a => adjustFields r.sequence a

/-! ### Floor bodies (R170) -/

/-- The office reason byte of a CARD RESULT that carries none: a free value (log entry 28). -/
def noReasonByte : List Byte := [Config.unusedByte 2]

/-- The hold bytes of a CARD RESULT that carries none: free values (log entry 28). -/
def noHoldBytes : List Byte := [Config.unusedByte 3, Config.unusedByte 4, Config.unusedByte 5]

/-- The office reason byte of a decline (R170): the reason of OFFICE; free for every other (log entry 28). -/
def officeReason : DeclineReason → List Byte
  | .office n => putNum 1 n
  | _ => noReasonByte

/-- A CARD RESULT body (R170). MODEL'S CHOICE, log entry 28: the spec gives no value for the office reason of a result
other than DECLINED OFFICE, nor for the hold of one other than ACCEPTED; those bytes are free values. -/
def cardResultFields : CardResult → List Byte
  | .accepted hold => putNum 1 0 ++ putNum 1 255 ++ noReasonByte ++ putNum 3 hold
  | .declined r => putNum 1 1 ++ putNum 1 (declineCode r) ++ officeReason r ++ noHoldBytes
  | .pending => putNum 1 2 ++ putNum 1 255 ++ noReasonByte ++ noHoldBytes
  | .busy => putNum 1 3 ++ putNum 1 255 ++ noReasonByte ++ noHoldBytes

/-- A JOB CLOSED body (R170). -/
def jobClosedFields (j : JobClosed) : List Byte :=
  putNum 1 (endReasonOrder.idxOf j.reason) ++ putNum 3 j.charge ++ toSigned j.balance ++ putNum 2 j.writtenOff

/-- A line of panel text, padded with code 32 to 20 characters (R170). -/
def panelLine (l : List Byte) : List Byte := l ++ List.replicate (20 - l.length) 32

/-- A PANEL TEXT body (R170). -/
def panelFields (p : PanelPayload) : List Byte := putNum 1 p.time ++ panelLine p.one ++ panelLine p.two

/-- The code of a FEED refusal reason (R170). -/
def refusalCode : FeedRefusal → Nat
  | .held => 0
  | .jammed => 1
  | .closing => 2
  | .noJob => 3
  | .sequence _ => 4
  | .cls => 5
  | .rights => 6
  | .limit => 7
  | .pathFull => 8

/-- The outcome code, the refusal reason byte and the two figures of an ANSWER (R170). -/
def outcomeFields : AnswerOutcome → List Byte
  | .granted sheet price => putNum 1 0 ++ putNum 1 255 ++ putNum 4 sheet ++ putNum 4 price
  | .refused r =>
    putNum 1 1 ++ putNum 1 (refusalCode r) ++ putNum 4 (match r with | .sequence n => n | _ => 0) ++ putNum 4 0
  | .taken sheet => putNum 1 2 ++ putNum 1 255 ++ putNum 4 sheet ++ putNum 4 0
  | .order => putNum 1 3 ++ putNum 1 255 ++ putNum 4 0 ++ putNum 4 0
  | .jammed => putNum 1 4 ++ putNum 1 255 ++ putNum 4 0 ++ putNum 4 0
  | .counted => putNum 1 5 ++ putNum 1 255 ++ putNum 4 0 ++ putNum 4 0
  | .restarted n w => putNum 1 6 ++ putNum 1 255 ++ putNum 4 n ++ putNum 4 w
  | .notReady => putNum 1 7 ++ putNum 1 255 ++ putNum 4 0 ++ putNum 4 0
  | .protocol => putNum 1 8 ++ putNum 1 255 ++ putNum 4 0 ++ putNum 4 0
  | .noted => putNum 1 9 ++ putNum 1 255 ++ putNum 4 0 ++ putNum 4 0
  | .closing => putNum 1 10 ++ putNum 1 255 ++ putNum 4 0 ++ putNum 4 0
  | .closed => putNum 1 11 ++ putNum 1 255 ++ putNum 4 0 ++ putNum 4 0
  | .ignored => putNum 1 12 ++ putNum 1 255 ++ putNum 4 0 ++ putNum 4 0
  | .result => putNum 1 13 ++ putNum 1 255 ++ putNum 4 0 ++ putNum 4 0

/-- What an ANSWER carries attached, with its kind (R170). -/
def attachedFields : Attached → List Byte
  | .none => putNum 1 0
  | .cardResult r => putNum 1 1 ++ cardResultFields r
  | .jobClosed j => putNum 1 2 ++ jobClosedFields j

/-- An ANSWER body (R170). -/
def answerFields (x : Answer) : List Byte :=
  putFlag x.toggle ++ putNum 1 (eventOrder.idxOf x.kind) ++ outcomeFields x.outcome ++ attachedFields x.attached

/-- The address, kind byte (R168) and body (R170) of a floor frame. -/
def floorParts : FloorFrame → Addr × Nat × List Byte
  | .probe a pattern => (a, 0, [pattern])
  | .poll a => (a, 1, [])
  | .answer a x => (a, 2, answerFields x)
  | .cardResult a r => (a, 3, cardResultFields r)
  | .resume a => (a, 4, [])
  | .jobClosed a j => (a, 5, jobClosedFields j)
  | .panelText a p => (a, 6, panelFields p)

/-- The bytes after the start mark of a floor frame (R146, R168). -/
def floorFrameBytes (f : FloorFrame) : List Byte :=
  let p := floorParts f
  sealFrame (putNum 1 (floorNumber p.1) ++ putNum 1 p.2.1 ++ p.2.2)

/-! ### Office bodies (R169, R173) -/

/-- The figures of READ STATUS (R169). -/
def statusFields (r : StatusReport) : List Byte :=
  putNum 1 (modeOrder.idxOf r.mode) ++ putFlag r.freeVend ++ putNum 2 r.occupancy ++ putNum 1 r.reservations
    ++ putNum 1 r.busyChannels ++ putNum 1 r.queueLength ++ putNum 1 r.freeGuests ++ putFlag r.paused
    ++ putFlag r.sweeping ++ putNum 1 r.notices
    ++ r.stations.flatMap fun p =>
      putNum 1 (presenceOrder.idxOf p.1) ++ putNum 1 (stationStateOrder.idxOf p.2)

/-- The job items of READ STATION, all absent where no job is open (R163, R169). -/
def jobReportFields (r : Option JobReport) : List Byte :=
  let item (f : JobReport → List Byte) : List Byte := putOpt (r.map f)
  item (fun j => putNum 2 j.account.val) ++ item (fun j => putFlag j.guest) ++ item (fun j => putNum 1 j.plan.val)
    ++ item (fun j => putNum 2 j.discount) ++ item (fun j => putFlag j.service) ++ item (fun j => putNum 3 j.hold)
    ++ item (fun j => putNum 4 j.total) ++ item (fun j => putNum 4 j.committed)
    ++ item (fun j => putNum 2 j.confirmed) ++ item (fun j => putNum 2 j.highest)
    ++ item (fun j => putNum 3 j.nextFeed) ++ item (fun j => putNum 1 j.inFlight)
    ++ putOpt ((r.bind JobReport.owed).map fun o => putNum 2 o.1)
    ++ putOpt ((r.bind JobReport.owed).map fun o => putNum 2 o.2)
    ++ item (fun j => classCounts j.charged) ++ item (fun j => putNum 3 j.freeVend)
    ++ item (fun j => putNum 3 j.duplicates) ++ item (fun j => putNum 2 j.writtenOff)

/-- The figures of READ STATION: the second table of R169. -/
def stationFields (r : StationReport) : List Byte :=
  putOpt (some (putNum 1 (presenceOrder.idxOf r.presence)))
    ++ putOpt (r.token.map fun t => putNum 2 t.val) ++ putOpt (some [capsByte r.capabilities])
    ++ putOpt (some (putNum 1 r.misses)) ++ putOpt (some (putNum 1 (stationStateOrder.idxOf r.state)))
    ++ putOpt (r.remembered.map fun x => putNum 1 (stationStateOrder.idxOf x))
    ++ putOpt (r.pendingEnd.map fun x => putNum 1 (endReasonOrder.idxOf x))
    ++ putOpt (some (putFlag r.adminEnable)) ++ putOpt (some (putFlag r.effective))
    ++ putOpt (some (putFlag r.line)) ++ putOpt (some [engineByte r.engine])
    ++ putOpt (jamCauseItem r.engine.lastJam)
    ++ putOpt (r.tag.map fun t => putNum 2 (tagNumber t)) ++ putOpt (r.queuePlace.map (putNum 1))
    ++ jobReportFields r.job ++ putOpt (r.wanted.map (putNum 3))
    ++ putOpt (r.timer.map fun t => putNum 1 (timerOrder.idxOf t.kind))
    ++ putOpt (r.timer.map fun t => putNum 2 t.remaining)
    ++ putOpt (some [setByte [r.jobClosed, r.cardResult, r.resume]]) ++ putOpt (some (putNum 1 r.panelCount))

/-- The figures of a response (R169). -/
def figureFields : Figures → List Byte
  | .none => []
  | .identity vendor part revision => putNum 2 vendor ++ putNum 2 part ++ putNum 1 revision
  | .shop r => statusFields r
  | .station r => stationFields r
  | .account n a => accountFields n a
  | .limits limit plan discount rights =>
    putNum 4 limit ++ putNum 1 plan.val ++ putNum 2 discount ++ [rightsByte rights]
  | .accountRead n a available => accountReadFields n a available
  | .changed more numbers =>
    putNum 1 numbers.length ++ putFlag more ++ numbers.flatMap fun n => putNum 2 n.val
  | .adjusted sequence requested applied balance available =>
    putNum 2 sequence ++ toSigned requested ++ toSigned applied ++ toSigned balance ++ toSigned available
  | .cardPlace bucket way => putNum 1 bucket.val ++ putNum 1 way.val
  | .cardRead e bucket way => cardFields e ++ putNum 1 bucket.val ++ putNum 1 way.val
  | .planRead n p => planFields n p ++ putNum 1 p.captures
  | .verdict none => putNum 1 0 ++ putNum 1 255
  | .verdict (some r) => putNum 1 1 ++ putNum 1 (declineCode r)
  | .timers t =>
    putNum 2 t.authorization ++ putNum 2 t.idle ++ putNum 2 t.holdWait ++ putNum 2 t.jam ++ putNum 2 t.drain
      ++ putNum 2 t.reconnectGrace
  | .journal occupancy reservations records =>
    putNum 1 records.length ++ putNum 2 occupancy ++ putNum 1 reservations ++ records.flatMap recordFields
  | .acknowledged removed head occupancy =>
    putNum 2 removed ++ putNum 2 (head.getD 0) ++ putNum 2 occupancy
  | .metersRead a m => putNum 1 (floorNumber a) ++ meterFields m
  | .metersPreset m => meterFields m
  | .modeChange previous new ended forced =>
    putNum 1 (modeOrder.idxOf previous) ++ putNum 1 (modeOrder.idxOf new) ++ putNum 1 ended ++ putNum 1 forced
  | .freeVend value => putFlag value
  | .stationEnable a admin effective state =>
    putNum 1 (floorNumber a) ++ putFlag admin ++ putFlag effective ++ putNum 1 (stationStateOrder.idxOf state)
  | .windowIndex index => putNum 2 index
  | .placed count => putNum 1 count

/-- The kind of a notice (R168). -/
def noticeKind : Notice → OfficeKind
  | .authRequest _ => .authRequest
  | .stationStatus _ _ _ _ => .stationStatus
  | .journalLevel _ _ _ _ _ => .journalLevel

/-- A notice body (R173). -/
def noticeFields : Notice → List Byte
  | .authRequest r =>
    putNum 2 (tagNumber r.tag) ++ putNum 1 (floorNumber r.station) ++ putNum 8 r.card
      ++ putNum 2 ((r.account.map Fin.val).getD 65535) ++ putNum 3 (r.requested.getD 0)
  | .stationStatus a state engine jams =>
    putNum 1 (floorNumber a) ++ putNum 1 (stationStateOrder.idxOf state) ++ [engineByte engine]
      ++ putNum 2 (jamCauseNumber engine.lastJam) ++ putNum 4 jams
  | .journalLevel occupancy reservations free head tail =>
    putNum 2 occupancy ++ putNum 1 reservations ++ putNum 2 free ++ putNum 2 (head.getD 0)
      ++ putNum 2 (tail.getD 0)

/-- The bytes after the start mark of an office frame sent, to destination 0 (R168): a response with the kind and
the number of its request, a notice with its own kind and request number 0. -/
def officeSentBytes : OfficeFrame → List Byte
  | .response r => officeFrameBytes 0 r.kind r.req (putNum 1 (statusOrder.idxOf r.status) ++ figureFields r.figures)
  | .notice n => officeFrameBytes 0 (noticeKind n).code 0 (noticeFields n)

end Sys2Proof.Machine
end

