-- ==== Sys2Proof/Safety.lean ====
section
/-! DEFINITION. What the spec calls the laws of the device, as properties of a state, and the words in which the
statements speak of a run: what an answer to a request and the taking of a station event leave. -/

namespace Sys2Proof.Machine

/-! ### The laws of the device -/

/-- The open job of a station, if any. -/
def jobAt (s : State) (a : Addr) : Option Job := (s.stations.get a).job

/-- A vend enable line is high exactly in ACTIVE, HELD, JAMMED and CLOSING (R140). -/
def VendLaw (s : State) : Prop :=
  ∀ a : Addr, (s.presence.get a).line =
    (match (s.stations.get a).state with
      | .active => true
      | .held => true
      | .jammed => true
      | .closing => true
      | _ => false)

/-- The committed total of every open job, rounded up to minor units, is at most its hold (R73). -/
def HoldLaw (s : State) : Prop :=
  ∀ (a : Addr) (j : Job), jobAt s a = some j →
    ceil100 (j.total + (j.inFlight.map InFlight.price).sum) ≤ j.hold

/-- The notice queue holds at most one notice per subject (R159). -/
def NoticeLaw (s : State) : Prop := s.notices.Pairwise fun x y => sameSubject x y = false

/-- An entry of the card map. -/
def cardAt (s : State) (b : BucketNo) (w : WayNo) : Option CardEntry := (s.cards.get b).get w

/-- A card stands in its own bucket, in one way only, with a card number and an account in range (R12, R14). -/
def CardLaw (s : State) : Prop :=
  (∀ (b : BucketNo) (w : WayNo) (e : CardEntry), cardAt s b w = some e →
    e.card % 65521 % 256 = b.val ∧ 1 ≤ e.card ∧ e.card ≤ 9999999999999999999 ∧ e.account.val ≤ 479)
  ∧ ∀ (b : BucketNo) (w v : WayNo) (e f : CardEntry), cardAt s b w = some e → cardAt s b v = some f →
    e.card = f.card → w = v

/-- The sequence number that follows another: from 65,535 it wraps to 1 (R118). -/
def seqFollows (n m : Nat) : Prop := m = if n = 65535 then 1 else n + 1

/-- The journal's sequence numbers follow one another without gaps, up to the next sequence number, all of them 1 to
65,535 (R118). -/
def SequenceLaw (s : State) : Prop :=
  (∀ r ∈ s.journal, 1 ≤ r.sequence ∧ r.sequence ≤ 65535) ∧ 1 ≤ s.nextSeq ∧ s.nextSeq ≤ 65535
  ∧ List.IsChain seqFollows (s.journal.map JournalRecord.sequence ++ [s.nextSeq])

/-- The station of a BUSY channel. -/
def channelStation (s : State) (c : ChannelNo) : Option Addr := (s.channels.get c).busy.map AuthRecord.station

/-- A station holds a channel. -/
def HoldsChannel (s : State) (a : Addr) : Prop := ∃ c : ChannelNo, channelStation s c = some a

/-- A job record is present exactly in the five open states, and the card of an authorization exactly in
AUTHORIZING; a station in AUTHORIZING holds a channel or a queue place, never both, and no other station holds
either; no station holds two channels or two places; a station waits only while every channel is BUSY
(R28, R30, R43). -/
structure StationLaw (s : State) : Prop where
  job       : ∀ a : Addr, (jobAt s a).isSome = hasOpenJob (s.stations.get a).state
  card      : ∀ a : Addr, (s.stations.get a).authCard.isSome = ((s.stations.get a).state == .authorizing)
  holder    : ∀ a : Addr, (s.stations.get a).state = .authorizing ↔ HoldsChannel s a ∨ a ∈ s.waitQueue
  notBoth   : ∀ a : Addr, HoldsChannel s a → a ∉ s.waitQueue
  oneEach   : ∀ c d : ChannelNo, channelStation s c ≠ none → channelStation s c = channelStation s d → c = d
  queue     : s.waitQueue.Nodup
  allBusy   : s.waitQueue ≠ [] → ∀ c : ChannelNo, channelStation s c ≠ none

/-- The open jobs of the sixteen stations. -/
def openJobs (s : State) : List Job := allAddrs.filterMap (jobAt s)

/-- Reservations equal the open jobs, and occupancy plus reservations is at most 256 (R27, R117, R119). -/
structure JournalLaw (s : State) : Prop where
  stations : StationLaw s
  reserved : s.reservations = (openJobs s).length
  bounded  : s.journal.length + s.reservations ≤ 256

/-- The open jobs on a record. -/
def jobsOn (s : State) (n : AccountNo) : List Job := (openJobs s).filter fun j => j.account == n

/-- The sheet path of one job: at most 8 sheets in flight, consecutive up to N − 1; L − C at most 8; a sheet in
flight is a duplicate exactly when its number is at most C. Outside a jam every sheet from C+1 to N − 1 is in
flight; in a jam none is (R46, R97, R107). -/
structure PathLaw (jammed : Bool) (j : Job) : Prop where
  size      : j.inFlight.length ≤ 8
  sheets    : j.inFlight.map InFlight.sheet = List.range' (j.nextFeed - j.inFlight.length) j.inFlight.length
  next      : j.inFlight.length < j.nextFeed ∧ j.nextFeed ≤ j.highest + 1 ∧ j.highest ≤ 65535
  window    : j.confirmed ≤ j.highest ∧ j.highest ≤ j.confirmed + 8
  duplicate : ∀ e ∈ j.inFlight, e.duplicate = decide (e.sheet ≤ j.confirmed)
  owed      : if jammed then j.inFlight = [] else j.nextFeed ≤ j.confirmed + 1 + j.inFlight.length

/-- A station is JAMMED, or DETACHED with JAMMED remembered. -/
def inJam (r : Station) : Bool := r.state == .jammed || (r.state == .detached && r.remembered == some .jammed)

/-- The sheet path law of every open job (R46). -/
def SheetLaw (s : State) : Prop :=
  ∀ (a : Addr) (j : Job), jobAt s a = some j → PathLaw (inJam (s.stations.get a)) j

/-- Every record's holds total is the sum of the holds of the open jobs on it and its open jobs are their count;
statuses fit the record's number; an UNLOADED or FREE record has no job and a GUEST slot exactly one; every plan's
capture count is the number of open jobs that captured it, and a captured plan is loaded; outside a service job the
hold covers m, and a loaded plan's m is at most its h (R1, R3, R19, R20, R78). -/
structure AccountLaw (s : State) : Prop where
  stations : StationLaw s
  cards    : CardLaw s
  holds    : ∀ n : AccountNo, (s.accounts.get n).holdsTotal = ((jobsOn s n).map Job.hold).sum
  count    : ∀ n : AccountNo, (s.accounts.get n).openJobs = (jobsOn s n).length
  regular  : ∀ n : AccountNo, n.val < 480 →
    (s.accounts.get n).status = .unloaded ∨ (s.accounts.get n).status = .openAccount
      ∨ (s.accounts.get n).status = .suspended
  slot     : ∀ n : AccountNo, 480 ≤ n.val →
    (s.accounts.get n).status = .free ∨ (s.accounts.get n).status = .guest
  idle     : ∀ n : AccountNo, (s.accounts.get n).status = .unloaded ∨ (s.accounts.get n).status = .free →
    jobsOn s n = []
  guest    : ∀ n : AccountNo, (s.accounts.get n).status = .guest → (jobsOn s n).length = 1
  flag     : ∀ j ∈ openJobs s, j.guest = decide (480 ≤ j.account.val)
  captures : ∀ p : PlanNo, (s.plans.get p).captures = ((openJobs s).filter fun j => j.plan == p).length
  loaded   : ∀ j ∈ openJobs s, (s.plans.get j.plan).loaded = true
  least    : ∀ j ∈ openJobs s, j.service = false → (s.plans.get j.plan).m ≤ j.hold
  terms    : ∀ p : PlanNo, (s.plans.get p).loaded = true → (s.plans.get p).m ≤ (s.plans.get p).h

/-- Money, discounts, meters, timer settings, miss counts and panel texts stay in their ranges; the sheet path law
bounds the sheets that one close writes off (Table 1-1, R46, R62, R131, R147). -/
structure RangeLaw (s : State) : Prop where
  sheets   : SheetLaw s
  balance  : ∀ n : AccountNo, -9999999 ≤ (s.accounts.get n).balance ∧ (s.accounts.get n).balance ≤ 99999999
  credit   : ∀ n : AccountNo, (s.accounts.get n).creditLimit ≤ 9999999
  discount : ∀ n : AccountNo, (s.accounts.get n).discount ≤ 900
  meters   : ∀ a : Addr, (s.meters.get a).all (fun v => decide (v ≤ 99999999)) = true
  timers   : 5 ≤ s.timers.authorization ∧ s.timers.authorization ≤ 60
    ∧ 15 ≤ s.timers.idle ∧ s.timers.idle ≤ 600 ∧ 30 ≤ s.timers.holdWait ∧ s.timers.holdWait ≤ 600
    ∧ 60 ≤ s.timers.jam ∧ s.timers.jam ≤ 3600 ∧ 10 ≤ s.timers.drain ∧ s.timers.drain ≤ 120
    ∧ 2 ≤ s.timers.reconnectGrace ∧ s.timers.reconnectGrace ≤ 60
  misses   : ∀ a : Addr, (s.presence.get a).misses ≤ 3
  panel    : ∀ a : Addr, (s.presence.get a).panel.length ≤ 2

/-- A sweep runs or is asked for. -/
def inSweep (s : State) : Prop := s.sweep ≠ .idle ∨ awaitsSweep s.awaiting = true

/-- How a station's state fits its presence (R44, R59, R147): at rest it holds the rest state of its presence and
effective enable; a LOST address is OFFLINE or DETACHED, an ABSENT or CONFLICT one is OFFLINE with a cleared record;
DETACHED is of a LOST address, with a state to return to; a sweep meets no job and no authorization (R149); a loss
timer runs only for a LOST address without a job (R152). -/
structure FloorLaw (s : State) : Prop where
  stations : StationLaw s
  rest     : ∀ a : Addr, atRest (s.stations.get a).state = true → (s.stations.get a).state = restState s a
  present  : ∀ a : Addr, (s.presence.get a).state = .present → (s.stations.get a).state ≠ .detached
  lost     : ∀ a : Addr, (s.presence.get a).state = .lost →
    (s.stations.get a).state = .offline ∨ (s.stations.get a).state = .detached
  missing  : ∀ a : Addr, (s.presence.get a).state = .absent ∨ (s.presence.get a).state = .conflict →
    (s.stations.get a).state = .offline
      ∧ s.presence.get a = { PresenceRecord.reset with
          state := (s.presence.get a).state, line := (s.presence.get a).line }
  detached : ∀ a : Addr, (s.stations.get a).state = .detached →
    (s.stations.get a).remembered = some .active ∨ (s.stations.get a).remembered = some .held
      ∨ (s.stations.get a).remembered = some .jammed ∨ (s.stations.get a).remembered = some .closing
  sweep    : inSweep s → ∀ a : Addr, atRest (s.stations.get a).state = true
  probe    : ∀ a : Addr, s.awaiting = .probe a → (s.presence.get a).state = .absent
  loss     : ∀ a : Addr, (s.presence.get a).lossTimer.isSome = true →
    (s.presence.get a).state = .lost ∧ (s.stations.get a).state = .offline

/-- Every law of the device. -/
structure DeviceLaws (s : State) : Prop where
  vend     : VendLaw s
  hold     : HoldLaw s
  notice   : NoticeLaw s
  card     : CardLaw s
  sequence : SequenceLaw s
  journal  : JournalLaw s
  sheets   : SheetLaw s
  account  : AccountLaw s
  range    : RangeLaw s
  floor    : FloorLaw s

/-! ### The words of the statements: requests -/

/-- One response joins the waiting responses (R157). -/
def answered (s : State) (k : OfficeKind) (req : Nat) (status : Status) (figures : Figures) : State :=
  { s with responses := s.responses ++ [{ kind := k.code, req, status, figures }] }

/-- The six rights of a byte, MONO at bit 0 (R166). -/
def rightsIn (b : Byte) : Rights := ⟨hasBit b 0, hasBit b 1, hasBit b 2, hasBit b 3, hasBit b 4, hasBit b 5⟩

/-- A tag as it travels: channel × 4,096 + generation (R166). -/
def tagSent (t : Tag) : Nat := t.channel.val * 4096 + t.generation.val

/-- The journal has a free slot: 256 minus occupancy minus reservations is above 0 (R24, R119). -/
def SlotFree (s : State) : Prop := s.journal.length + s.reservations < 256

/-- The next sequence number after one is given (R118). -/
def sequenceAfter (n : Nat) : Nat := if n = 65535 then 1 else n + 1

/-- The JOURNAL_LEVEL notice after an event that raised the level: at 192 and at 256 (R128). -/
def levelNoted (s : State) : State :=
  if s.journal.length + s.reservations = 192 ∨ s.journal.length + s.reservations = 256
  then { s with notices := placeIn .journalLevel s.notices } else s

/-- A meter after a rise, with its roll-over from 99,999,999 to 0 (R131). -/
def rolled (v k : Nat) : Nat := if v + k < 100000000 then v + k else v + k - 100000000

/-! ### The words of the statements: stations -/

/-- A station record replaced, with the vend enable line of its state (R140). -/
def seat (s : State) (a : Addr) (r : Station) : State :=
  { s with
    stations := s.stations.set a r
    presence := s.presence.set a { s.presence.get a with
      line := decide (r.state = .active ∨ r.state = .held ∨ r.state = .jammed ∨ r.state = .closing) } }

/-- The idle timer of an ACTIVE station started afresh while its list is empty and no paper-out is kept, and stopped
otherwise; any other station as it is (R53). -/
def idled (t : PerTimer Nat) (r : Station) : Station :=
  match r.state, r.job with
  | .active, some j =>
    if j.inFlight = [] ∧ r.engine.flags.paperOut = false then { r with timer := some ⟨.idle, t.idle⟩ }
    else { r with timer := none }
  | .active, none => { r with timer := none }
  | _, _ => r

/-- A message sent in the visit under way and then replaced or withdrawn is not confirmed by its reply (R155). -/
def forgot (w : Awaiting) (a : Addr) (ms : List Message) : Awaiting :=
  match w with
  | .poll b (some m) => if b = a ∧ m ∈ ms then .poll a none else w
  | _ => w

/-- A CARD RESULT in a station's slot (R22). -/
def slotted (s : State) (a : Addr) (r : CardResult) : State :=
  { s with
    awaiting := forgot s.awaiting a [.cardResult]
    presence := s.presence.set a { s.presence.get a with cardResult := some r } }

/-- The reply to a POLL of `a` is awaited, `sent` having gone out before it; the address is PRESENT, the reset pin
high and no sweep is asked for. -/
def Polling (s : State) (a : Addr) (sent : Option Message) : Prop :=
  s.resetLow = false ∧ s.awaiting = .poll a sent ∧ (s.presence.get a).state = .present ∧ s.sweep = .idle

/-- An EVENT with this toggle is awaited and would be taken: it is no repeat (R154). -/
def Taking (s : State) (a : Addr) (sent : Option Message) (toggle : Bool) : Prop :=
  Polling s a sent ∧ (s.presence.get a).toggle ≠ some toggle

/-- The reply to a POLL of `a` is awaited, as in `Polling`, and the address is PRESENT or LOST (R147). -/
def Visited (s : State) (a : Addr) (sent : Option Message) : Prop :=
  s.resetLow = false ∧ s.awaiting = .poll a sent
    ∧ ((s.presence.get a).state = .present ∨ (s.presence.get a).state = .lost) ∧ s.sweep = .idle

/-- The EVENTs of a station with a toggle, every field in its range (R146, R154). -/
inductive EventFrom (addr : Nat) (toggle : Bool) : Instr → Prop
  | card (number : Nat) : 1 ≤ number → number ≤ 9999999999999999999 → EventFrom addr toggle (.card addr toggle number)
  | cancel : EventFrom addr toggle (.cancel addr toggle)
  | feed (sheet : U16) (sides : Sides) : EventFrom addr toggle (.feed addr toggle sheet sides)
  | delivered (sheet : U16) : EventFrom addr toggle (.delivered addr toggle sheet)
  | jam (location : Byte) : EventFrom addr toggle (.jam addr toggle location)
  | recovered (restart : U16) : EventFrom addr toggle (.recovered addr toggle restart)
  | status (flags : EngineFlags) : EventFrom addr toggle (.status addr toggle flags)
  | finish : EventFrom addr toggle (.finish addr toggle)

/-- What may come in the reply window of a POLL, but for a CARD (R146, R151). -/
inductive ReplyButCard : Instr → Prop
  | nothing (addr : Nat) : ReplyButCard (.nothing addr)
  | hello (addr : Nat) (token : U16) (caps : Capabilities) : ReplyButCard (.hello addr token caps)
  | garbled : ReplyButCard .garbledReply
  | missed : ReplyButCard .missedReply
  | event (addr : Nat) (toggle : Bool) (c : Instr) : EventFrom addr toggle c →
      (∀ number : Nat, c ≠ .card addr toggle number) → ReplyButCard c

/-- A valid reply to a POLL of a LOST address is heard and its station comes back (R60, R152): at rest it takes its
rest state, DETACHED it takes the state remembered, from HELD with a retry (R86). At any other address the reply is
heard and no more. -/
def cameBack (s : State) (a : Addr) (sent : Option Message) : State :=
  let h := heard s a sent
  let r := s.stations.get a
  let back (state : StationState) (k : TimerKind) : State :=
    seat h a { r with state := state, remembered := none, timer := some ⟨k, settingOf s.timers k⟩ }
  if (s.presence.get a).state = .lost then
    if atRest r.state then seat h a { r with state := restState h a, timer := none }
    else if r.state = .detached then
      match r.remembered with
      | some .active => seat h a (idled s.timers { r with state := .active, remembered := none, timer := none })
      | some .held => retryStation (back .held .holdWait) a
      | some .jammed => back .jammed .jam
      | some .closing => back .closing .drain
      | _ => h
    else h
  else h

/-- A sweep that was asked for begins as the visit or the probe under way ends, the ANSWER of that visit sent
(R149). -/
def sweepBegun (s : State) : State :=
  { s with
    sweep := .running, awaiting := .sweepOne 0, roundPos := none, lastProbed := none
    floorTx := (match s.floorTx with
      | [.answer b x] => [.answer b x]
      | _ => []) ++ [.probe 0 85] }

/-- An ANSWER goes out and is kept as the last answer with its toggle; the visit ends (R150, R154). -/
def taken (s : State) (a : Addr) (x : Answer) : State :=
  { s with
    awaiting := .none
    presence := s.presence.set a { s.presence.get a with toggle := some x.toggle, lastAnswer := some x }
    floorTx := [.answer a x] }

/-! ### The words of the statements: authorizations -/

/-- The checks of a record that a card or an approval names: its status, MONO, the mode right, its plan
(checks 2a to 2d of R24, checks 1 to 4 of R36). -/
def recordCheck (s : State) (x : Account) : Option DeclineReason :=
  if x.status = .unloaded then some .noAccount
  else if x.status = .suspended then some .suspended
  else if x.rights.mono = false then some .noRights
  else if (s.mode = .afterHours ∧ x.rights.afterHours = false) ∨ (s.mode = .service ∧ x.rights.service = false)
    ∨ s.mode = .closed then some .mode
  else if (s.plans.get x.plan).loaded = false then some .noPlan
  else none

/-- Outside SERVICE mode the available amount is below the greater of m and 1 (check 5 of R24, check 6 of R36). -/
def FundsShort (s : State) (x : Account) : Prop :=
  s.mode ≠ .service ∧ x.balance + x.creditLimit - x.holdsTotal < (max (s.plans.get x.plan).m 1 : Nat)

/-- The hold of a grant: 0 in SERVICE mode, else the smaller of the available amount and the greater of the base
figure and m (R26, R36). -/
def holdGiven (s : State) (x : Account) (base : Nat) : Nat :=
  if s.mode = .service then 0
  else (min (x.balance + x.creditLimit - x.holdsTotal) (max base (s.plans.get x.plan).m : Nat)).toNat

/-- The requested hold of an online authorization (R28). -/
def requested (s : State) : Option CardLookup → Option Nat
  | none => none
  | some ⟨_, some c, _⟩ => some c
  | some ⟨n, none, _⟩ =>
    if (s.accounts.get n).status ≠ .unloaded ∧ (s.plans.get (s.accounts.get n).plan).loaded = true
    then some (s.plans.get (s.accounts.get n).plan).h else none

/-- A station with its card takes channel `c` (R28, R31). -/
def channelled (s : State) (c : ChannelNo) (a : Addr) (card : Nat) (lookup : Option CardLookup) : State :=
  { s with
    channels := s.channels.set c
      ⟨(s.channels.get c).generation + 1, some ⟨a, card, lookup, requested s lookup⟩⟩
    notices := placeIn (.authRequest ⟨⟨c, (s.channels.get c).generation + 1⟩, a, card,
      lookup.map CardLookup.account, requested s lookup⟩) s.notices }

/-- An authorization ended without a grant: channel or queue place given up, rest state taken (R32). -/
def unauthorized (s : State) (a : Addr) : State :=
  seat (releaseAuthorization s a) a
    { s.stations.get a with state := restState s a, authCard := none, timer := none }

/-- A grant (R27): the record's hold and open jobs, the channel or queue place given up, the reservation with its
notice, the capture, the job record as R45 opens it, ACTIVE with its line and its idle timer. -/
def granted (s : State) (a : Addr) (n : AccountNo) (guest : Bool) (ceiling : Option Nat) (hold : Nat) : State :=
  let x := s.accounts.get n
  let p := s.plans.get x.plan
  let t := releaseAuthorization
    { s with accounts := s.accounts.set n { x with holdsTotal := x.holdsTotal + hold, openJobs := x.openJobs + 1 } } a
  let u := levelNoted { t with reservations := t.reservations + 1 }
  seat { u with plans := u.plans.set x.plan { p with captures := p.captures + 1 } } a
    (idled s.timers { s.stations.get a with
      state := .active, timer := none, authCard := none
      job := some {
        account := n, guest, plan := x.plan, discount := x.discount, rights := x.rights,
        service := decide (s.mode = .service), ceiling, hold, total := 0, charged := ⟨0, 0, 0, 0, 0, 0⟩,
        duplicates := 0, freeVend := 0, writtenOff := 0, confirmed := 0, highest := 0, nextFeed := 1,
        inFlight := [] } })

/-! ### The words of the statements: jobs -/

/-- The numbers from C+1 to L that are not in flight (R47). -/
def owed (j : Job) : List Nat :=
  (List.range' (j.confirmed + 1) (j.highest - j.confirmed)).filter fun n => j.inFlight.all fun e => e.sheet != n

/-- The rounded amount of a job: T discounted, then rounded half up (R75, R76). -/
def roundedOf (j : Job) : Nat := (j.total * (1000 - j.discount) / 1000 + 50) / 100

/-- The charge of a job, and whether the minimum was applied (R77). -/
def due (m : Nat) (j : Job) : Nat × Bool :=
  if j.service = false ∧ 1 ≤ classSum j.charged ∧ roundedOf j < m then (m, true) else (roundedOf j, false)

/-- The offer of an extension (R80): the least of ceiling, available and room; 0 but on an OPEN or GUEST record. -/
def offered (s : State) (j : Job) : Int :=
  let x := s.accounts.get j.account
  if x.status = .openAccount ∨ x.status = .guest then
    min (min (j.ceiling.getD (s.plans.get j.plan).h : Nat) (x.balance + x.creditLimit - x.holdsTotal))
      (999999 - (j.hold : Int))
  else 0

/-- An account after the settlement of a job (R90, R91). -/
def settledRecord (s : State) (j : Job) : Account :=
  let x := s.accounts.get j.account
  { x with
    balance := max (-9999999) (x.balance - ((due (s.plans.get j.plan).m j).1 : Int))
    holdsTotal := x.holdsTotal - j.hold
    openJobs := x.openJobs - 1
    changed := true }

/-- The close of a station's job, but for the retries that may follow (R57, R89 to R94, R114, R133, R152). -/
def closed (s : State) (a : Addr) (why : EndReason) (j : Job) : State :=
  let p := s.plans.get j.plan
  let m := s.meters.get a
  let q := s.presence.get a
  let y := settledRecord s j
  { s with
    accounts := s.accounts.set j.account (if j.guest then Account.reset .free else y)
    plans := s.plans.set j.plan { p with captures := p.captures - 1 }
    journal := s.journal ++ [⟨s.nextSeq, .job {
      station := a, account := j.account, guest := j.guest
      guestTag := if j.guest then (s.accounts.get j.account).guestTag else none
      plan := j.plan, discount := j.discount, service := j.service, charged := j.charged, freeVend := j.freeVend
      duplicates := j.duplicates, writtenOff := j.writtenOff + (j.highest - j.confirmed), total := j.total
      discounted := j.total * (1000 - j.discount) / 1000, charge := (due p.m j).1, minApplied := (due p.m j).2
      finalHold := j.hold, reason := why, balance := y.balance }⟩]
    nextSeq := sequenceAfter s.nextSeq
    reservations := s.reservations - 1
    meters := s.meters.set a { m with writtenOff := rolled m.writtenOff (j.highest - j.confirmed) }
    stations := s.stations.set a { s.stations.get a with
      state := restState s a, job := none, remembered := none, pendingEnd := none, wanted := none, timer := none }
    presence := s.presence.set a { q with
      resume := false, line := false
      lossTimer := if q.state = .lost then some s.timers.reconnectGrace else q.lossTimer }
    awaiting := forgot s.awaiting a [.resume]
    notices := if (s.stations.get a).state = .jammed then placeIn (.stationStatus a) s.notices else s.notices }

/-- A close with the retries on the account's HELD jobs, made when the account is a regular record and its available
amount has risen (step 7 of R89). -/
def settled (s : State) (a : Addr) (why : EndReason) (j : Job) : State :=
  if j.guest = false ∧ available (s.accounts.get j.account) < available (settledRecord s j)
  then retryAccount (closed s a why j) j.account else closed s a why j

/-- The JOB CLOSED of a close (R93). -/
def closedNote (s : State) (why : EndReason) (j : Job) : JobClosed :=
  ⟨why, (due (s.plans.get j.plan).m j).1, (settledRecord s j).balance, j.writtenOff + (j.highest - j.confirmed)⟩

/-- A JOB CLOSED in a station's slot, an unconfirmed CARD RESULT withdrawn (R155). -/
def closedSlot (s : State) (a : Addr) (j : JobClosed) : State :=
  { s with
    awaiting := forgot s.awaiting a [.jobClosed, .cardResult]
    presence := s.presence.set a { s.presence.get a with jobClosed := some j, cardResult := none } }

/-- A close outside any event of the station (step 4 of R57). -/
def closedAway (s : State) (a : Addr) (why : EndReason) (j : Job) : State :=
  closedSlot (settled s a why j) a (closedNote s why j)

/-- Entry to CLOSING with sheets in flight (R55). -/
def draining (s : State) (a : Addr) (why : EndReason) : State :=
  seat s a { s.stations.get a with
    state := .closing, pendingEnd := some why, wanted := none, timer := some ⟨.drain, s.timers.drain⟩ }

/-- A close asked for outside any event of an ACTIVE or HELD station: at once with nothing in flight, else after the
drain (R55). -/
def closingAway (s : State) (a : Addr) (why : EndReason) (j : Job) : State :=
  if j.inFlight = [] then closedAway s a why j else draining s a why

/-- A forced close by the state of a station with a job (R58, R143). -/
def forcedAway (s : State) (a : Addr) (j : Job) : State :=
  if (s.stations.get a).state = .active ∨ (s.stations.get a).state = .held then closingAway s a .forced j
  else if (s.stations.get a).state = .jammed ∨ (s.stations.get a).state = .detached then closedAway s a .forced j
  else s

/-- A forced close of a station's job at a change of mode, where it has one (R143). -/
def forcedNow (s : State) (a : Addr) : State :=
  match jobAt s a with
  | some j => forcedAway s a j
  | none => s

/-- A jam counted, its cause kept, the STATION_STATUS notice placed (R96, R99, R100). -/
def jamCounted (s : State) (a : Addr) (cause : JamCause) : State :=
  let r := s.stations.get a
  let m := s.meters.get a
  { s with
    meters := s.meters.set a { m with jams := rolled m.jams 1 }
    stations := s.stations.set a { r with engine := { r.engine with lastJam := cause } }
    notices := placeIn (.stationStatus a) s.notices }

end Sys2Proof.Machine
end

