-- ==== Sys2Proof/Certificates/Slice0/Obligations.lean ====
section
/-! DEFINITION. The statements about the ZC416 for the provers, one `def Obligations.<Name> : Prop` each. -/

open Sys2Proof Sys2Proof.Machine

/-- A step is the command at the front of the queue, run on the state with the queue's rest. -/
def Obligations.StepRunsFrontCommand : Prop :=
  ∀ (s : State) (c : Instr) (rest : List Instr), s.pending = c :: rest →
    step s = exec c { s with pending := rest }

/-- Nothing the spec describes stops the block: exec answers a next state for every command in every state, with the queue and the strap pins untouched. -/
def Obligations.EveryCommandAnswersNext : Prop :=
  ∀ (c : Instr) (s : State), ∃ t : State,
    exec c s = .next t ∧ t.pending = s.pending ∧ t.straps = s.straps

/-- MODEL'S CHOICE, log entry 1: with an empty queue one second passes. Every running timer counts down, the timers that run out put their expiry commands in the queue, and nothing else changes; under a low reset pin nothing counts (R174). -/
def Obligations.EmptyQueuePassesASecond : Prop :=
  ∀ s : State, s.pending = [] →
    (s.resetLow = true → step s = .next s)
    ∧ (s.resetLow = false → ∃ t : State, step s = .next t
      ∧ (∀ a : Addr, t.stations.get a = { s.stations.get a with
          timer := (s.stations.get a).timer.map fun k => { k with remaining := k.remaining - 1 } })
      ∧ (∀ a : Addr, t.presence.get a = { s.presence.get a with
          lossTimer := (s.presence.get a).lossTimer.map fun n => n - 1 })
      ∧ t = { s with
          stations := t.stations, presence := t.presence, freeTick := t.freeTick, pending := t.pending }
      ∧ ∀ c : Instr, c ∈ t.pending ↔ ∃ a : Addr,
          (∃ k : RunningTimer, (s.stations.get a).timer = some k ∧ k.remaining ≤ 1 ∧ c = expiryOf k.kind a)
          ∨ ∃ n : Nat, (s.presence.get a).lossTimer = some n ∧ n ≤ 1 ∧ c = .lossTimerExpiry (floorNumber a))

/-- The reset pin (R174), RESET FULL and RESET FLOOR (R165, R63, R42). The rate while the pin is low and the last frames sent are the model's (log entry 21). MODEL'S CHOICES: RESET_PIN_RELEASE with the pin high has no effect (log entry 4); responses that waited are dropped as the pin goes low (log entry 21). The order of the closes of a FLOOR reset is free (log entry 2). DEDUCED, log entry 18: a job closed from DETACHED with JAMMED remembered places no STATION_STATUS notice. -/
def Obligations.ResetsLeaveTheirTable : Prop :=
  ∀ (s : State) (c : Instr) (req : Nat),
    (s.resetLow = true → c ≠ .resetPinAssert → c ≠ .resetPinRelease → exec c s = .next s)
    ∧ exec .resetPinAssert s = .next { State.reset with
        straps := s.straps, rate := s.rate, resetLow := true, sweep := .idle, awaiting := .none
        officeTx := s.officeTx, floorTx := s.floorTx, freeTick := s.freeTick, pending := s.pending }
    ∧ exec .resetPinRelease s = .next (if s.resetLow then
        { State.reset with
          straps := s.straps, rate := rateOf s.straps, officeTx := s.officeTx, freeTick := s.freeTick
          pending := s.pending } else s)
    ∧ (s.resetLow = false → exec (.resetFull req) s = .next { State.reset with
      straps := s.straps, rate := rateOf s.straps, freeTick := s.freeTick, pending := s.pending
      officeTx := if s.responses = [] then s.officeTx else s.responses.map .response
      responses := [{ kind := 29, req, status := .ok, figures := .none }] }
    ∧ (JournalLaw s → ∃ t : State, exec (.resetFloor req) s = .next (answered t .reset req .ok .none)
      ∧ t = { s with
          accounts := t.accounts, channels := t.channels, waitQueue := [], plans := t.plans, journal := t.journal
          reservations := 0, nextSeq := t.nextSeq, meters := t.meters, freeTick := t.freeTick
          notices := t.notices, window := none
          stations := Table.fill 16 Station.reset, presence := Table.fill 16 PresenceRecord.reset
          sweep := .running, awaiting := .sweepOne 0, roundPos := none, lastProbed := none
          floorTx := [.probe 0 85] }
      ∧ (∀ c : ChannelNo, t.channels.get c = { s.channels.get c with busy := none })
      ∧ (∃ added : List JournalRecord, t.journal = s.journal ++ added ∧ added.length = (openJobs s).length
        ∧ ∀ r ∈ added, ∃ b : JobRecord, r.body = .job b ∧ b.reason = .controllerReset)
      ∧ (∀ a : Addr, jobAt s a = none → t.meters.get a = s.meters.get a)
      ∧ (∀ n : AccountNo, jobsOn s n = [] → t.accounts.get n = s.accounts.get n)
      ∧ (∀ p : PlanNo, { t.plans.get p with captures := 0 } = { s.plans.get p with captures := 0 })
      ∧ (AccountLaw s → ∀ p : PlanNo, (t.plans.get p).captures = 0)
      ∧ t.nextSeq = sequenceAfter^[(openJobs s).length] s.nextSeq
      ∧ (∃ l : List Addr, t.notices = s.notices ++ l.map NoticeEntry.stationStatus ∧ l.Nodup
        ∧ ∀ a : Addr, a ∈ l ↔ (s.stations.get a).state = .jammed ∧ NoticeEntry.stationStatus a ∉ s.notices)
      ∧ (∃ order : List Addr, order.Nodup ∧ (∀ a : Addr, a ∈ order ↔ jobAt s a ≠ none)
        ∧ let v := order.foldl (fun (u : State) (a : Addr) => match jobAt u a with
            | some j => closed u a .controllerReset j
            | none => u) s
          t.accounts = v.accounts ∧ t.plans = v.plans ∧ t.journal = v.journal ∧ t.nextSeq = v.nextSeq
            ∧ t.meters = v.meters ∧ t.notices = v.notices)
      ∧ ∀ (a : Addr) (j : Job), jobAt s a = some j →
        t.meters.get a = { s.meters.get a with
          writtenOff := rolled (s.meters.get a).writtenOff (j.highest - j.confirmed) }
        ∧ (AccountLaw s →
          (j.guest = true → t.accounts.get j.account = Account.reset .free)
          ∧ (j.guest = false → t.accounts.get j.account = { s.accounts.get j.account with
              balance := (t.accounts.get j.account).balance, holdsTotal := 0, openJobs := 0, changed := true }))))

/-- IDENTIFY, READ STATUS, READ STATION, READ ACCOUNT and READ PLAN (R10, R21, R163). MODEL'S CHOICES: a sweep asked for is reported as running (log entry 5); a place in the wait queue counts from 1, and the wanted amount is reported in HELD only (log entry 13). -/
def Obligations.ReportsChangeNothing : Prop :=
  ∀ (s : State) (req addr number : Nat) (a : Addr) (n : AccountNo) (p : PlanNo), s.resetLow = false →
    exec (.identify req) s = .next (answered { s with window := none } .identify req .ok (.identity 5120 416 1))
    ∧ exec (.readStatus req) s = .next (answered { s with window := none } .readStatus req .ok (.shop
        { mode := s.mode, freeVend := s.freeVend, occupancy := s.journal.length, reservations := s.reservations
          busyChannels := (allChannels.filter fun c => (s.channels.get c).busy.isSome).length
          queueLength := s.waitQueue.length
          freeGuests := (guestSlots.filter fun n => (s.accounts.get n).status == .free).length
          paused := s.paused, sweeping := decide (s.sweep ≠ .idle), notices := s.notices.length
          stations := allAddrs.map fun b => ((s.presence.get b).state, (s.stations.get b).state) }))
    ∧ exec (.readStation req (a.val + 1)) s = .next (answered { s with window := none } .readStation req .ok (.station
        { presence := (s.presence.get a).state, token := (s.presence.get a).token
          capabilities := (s.presence.get a).capabilities, misses := (s.presence.get a).misses
          state := (s.stations.get a).state, remembered := (s.stations.get a).remembered
          pendingEnd := (s.stations.get a).pendingEnd, adminEnable := s.adminEnable.get a
          effective := decide (s.adminEnable.get a = true ∧ s.mode ≠ .closed ∧ (s.presence.get a).state = .present)
          line := (s.presence.get a).line, engine := (s.stations.get a).engine, tag := tagHeld s a
          queuePlace := if a ∈ s.waitQueue then some (s.waitQueue.idxOf a + 1) else none
          job := (s.stations.get a).job.map fun j =>
            { account := j.account, guest := j.guest, plan := j.plan, discount := j.discount, service := j.service
              hold := j.hold, total := j.total, committed := j.total + (j.inFlight.map InFlight.price).sum
              confirmed := j.confirmed, highest := j.highest, nextFeed := j.nextFeed
              inFlight := j.inFlight.length
              owed := (owed j).head?.bind fun m => (owed j).getLast?.map fun n => (m, n)
              charged := j.charged, freeVend := j.freeVend, duplicates := j.duplicates
              writtenOff := j.writtenOff }
          wanted := if (s.stations.get a).state = .held then (s.stations.get a).wanted else none
          timer := (s.stations.get a).timer, jobClosed := (s.presence.get a).jobClosed.isSome
          cardResult := (s.presence.get a).cardResult.isSome, resume := (s.presence.get a).resume
          panelCount := (s.presence.get a).panel.length }))
    ∧ (addr = 0 ∨ 16 < addr →
        exec (.readStation req addr) s = .next (answered { s with window := none } .readStation req .badRequest .none))
    ∧ exec (.readAccount req n.val) s = .next (answered { s with window := none } .readAccount req .ok
        (.accountRead n (s.accounts.get n)
          ((s.accounts.get n).balance + (s.accounts.get n).creditLimit - (s.accounts.get n).holdsTotal)))
    ∧ (512 ≤ number →
        exec (.readAccount req number) s = .next (answered { s with window := none } .readAccount req .badRequest .none))
    ∧ exec (.readPlan req p.val) s =
        .next (answered { s with window := none } .readPlan req .ok (.planRead p (s.plans.get p)))
    ∧ (8 ≤ number →
        exec (.readPlan req number) s = .next (answered { s with window := none } .readPlan req .badRequest .none))

/-- READ JOURNAL and ACKNOWLEDGE JOURNAL (R126, R127), over a journal that keeps the law of R118. -/
def Obligations.JournalIsReadAndAcknowledged : Prop :=
  ∀ (s : State) (req n : Nat), s.resetLow = false → SequenceLaw s → s.journal.length ≤ 256 →
    exec (.readJournal req) s = .next (answered { s with window := none } .readJournal req .ok
      (.journal s.journal.length s.reservations (s.journal.take 8)))
    ∧ (n = 0 ∨ 65535 < n → exec (.acknowledgeJournal req n) s =
        .next (answered { s with window := none } .acknowledgeJournal req .badRequest .none))
    ∧ (1 ≤ n → n ≤ 65535 → (∀ r ∈ s.journal, r.sequence ≠ n) → exec (.acknowledgeJournal req n) s =
        .next (answered { s with window := none } .acknowledgeJournal req .badSequence .none))
    ∧ ∀ (gone rest : List JournalRecord) (r : JournalRecord), s.journal = gone ++ r :: rest → r.sequence = n →
      exec (.acknowledgeJournal req n) s =
        .next (answered { s with window := none, journal := rest } .acknowledgeJournal req .ok
          (.acknowledged (gone.length + 1) (rest.head?.map JournalRecord.sequence) rest.length))

/-- READ METERS and PRESET METERS (R135, R136). -/
def Obligations.MetersAreReadAndPreset : Prop :=
  ∀ (s : State) (req addr : Nat) (a : Addr) (v : Meters (Option Nat)), s.resetLow = false →
    exec (.readMeters req (a.val + 1)) s =
        .next (answered { s with window := none } .readMeters req .ok (.metersRead a (s.meters.get a)))
    ∧ (addr = 0 ∨ 16 < addr →
        exec (.readMeters req addr) s = .next (answered { s with window := none } .readMeters req .badRequest .none)
        ∧ exec (.presetMeters req addr v) s =
            .next (answered { s with window := none } .presetMeters req .badRequest .none))
    ∧ exec (.presetMeters req (a.val + 1) v) s = .next (
        if (s.stations.get a).state = .active ∨ (s.stations.get a).state = .held
            ∨ (s.stations.get a).state = .jammed ∨ (s.stations.get a).state = .closing
            ∨ (s.stations.get a).state = .detached then
          answered { s with window := none } .presetMeters req .inUse .none
        else
          let m := s.meters.get a
          let set (old : Nat) (new : Option Nat) : Nat := (new.map (min 99999999)).getD old
          let n : Meters Nat :=
            { classes :=
                ⟨set m.classes.sMono v.classes.sMono, set m.classes.sColour v.classes.sColour,
                  set m.classes.sFull v.classes.sFull, set m.classes.lMono v.classes.lMono,
                  set m.classes.lColour v.classes.lColour, set m.classes.lFull v.classes.lFull⟩
              service := set m.service v.service, duplicate := set m.duplicate v.duplicate
              writtenOff := set m.writtenOff v.writtenOff, jams := set m.jams v.jams }
          answered { s with window := none, meters := s.meters.set a n } .presetMeters req .ok (.metersPreset n))

/-- WRITE ACCOUNT (R6). -/
def Obligations.WriteAccountChecksAndWrites : Prop :=
  ∀ (s : State) (req : Nat) (p : AccountPayload), s.resetLow = false →
    (480 ≤ p.number ∨ (p.status ≠ 1 ∧ p.status ≠ 2) ∨ p.balance < -9999999 ∨ 99999999 < p.balance ∨ 8 ≤ p.plan
        ∨ 64 ≤ p.rights.toNat →
      exec (.writeAccount req p) s = .next (answered { s with window := none } .writeAccount req .badRequest .none))
    ∧ ∀ (n : AccountNo) (q : PlanNo), p.number = n.val → n.val < 480 → p.plan = q.val → p.rights.toNat < 64 →
        -9999999 ≤ p.balance → p.balance ≤ 99999999 → p.status = 1 ∨ p.status = 2 →
      exec (.writeAccount req p) s = .next (
        if (s.accounts.get n).openJobs ≠ 0 then answered { s with window := none } .writeAccount req .inUse .none
        else
          let x : Account :=
            { s.accounts.get n with
              status := if p.status = 1 then .openAccount else .suspended
              balance := p.balance, creditLimit := min p.creditLimit 9999999, plan := q
              discount := min p.discount 900, rights := rightsIn p.rights, changed := false, guestTag := none }
          answered { s with window := none, accounts := s.accounts.set n x } .writeAccount req .ok (.account n x))

/-- SET ACCOUNT LIMITS (R7, R8), with the retries of R85. -/
def Obligations.SetAccountLimitsKeepsAbsentFields : Prop :=
  ∀ (s : State) (req account : Nat) (limit plan discount : Option Nat) (rights : Option Byte), s.resetLow = false →
    (480 ≤ account ∨ (∃ q, plan = some q ∧ 8 ≤ q) ∨ (∃ b, rights = some b ∧ 64 ≤ b.toNat) →
      exec (.setAccountLimits req account limit plan discount rights) s =
        .next (answered { s with window := none } .setAccountLimits req .badRequest .none))
    ∧ ∀ (n : AccountNo) (q : Option PlanNo), account = n.val → n.val < 480 → plan = q.map Fin.val →
        (∀ b, rights = some b → b.toNat < 64) →
      exec (.setAccountLimits req account limit plan discount rights) s = .next (
        let x := s.accounts.get n
        if x.status = .openAccount ∨ x.status = .suspended then
          let y : Account :=
            { x with
              creditLimit := (limit.map (min 9999999)).getD x.creditLimit
              plan := q.getD x.plan
              discount := (discount.map (min 900)).getD x.discount
              rights := (rights.map rightsIn).getD x.rights }
          let t := { s with window := none, accounts := s.accounts.set n y }
          answered (if x.creditLimit < y.creditLimit then retryAccount t n else t) .setAccountLimits req .ok
            (.limits y.creditLimit y.plan y.discount y.rights)
        else answered { s with window := none } .setAccountLimits req .notFound .none)

/-- SET ACCOUNT STATUS (R9). -/
def Obligations.SetAccountStatusFollowsItsTable : Prop :=
  ∀ (s : State) (req account status : Nat) (n : AccountNo), s.resetLow = false →
    (480 ≤ account ∨ 3 ≤ status →
      exec (.setAccountStatus req account status) s =
        .next (answered { s with window := none } .setAccountStatus req .badRequest .none))
    ∧ (n.val < 480 →
      let x := s.accounts.get n
      let o := { s with window := none }
      exec (.setAccountStatus req n.val 0) s = .next (
          if x.openJobs ≠ 0 then answered o .setAccountStatus req .inUse .none
          else if x.status = .unloaded then answered o .setAccountStatus req .ok .none
          else answered { o with accounts := s.accounts.set n (Account.reset .unloaded) } .setAccountStatus req .ok .none)
      ∧ exec (.setAccountStatus req n.val 1) s = .next (
          if x.status = .unloaded then answered o .setAccountStatus req .notFound .none
          else if x.status = .openAccount then answered o .setAccountStatus req .ok .none
          else answered (retryAccount { o with accounts := s.accounts.set n { x with status := .openAccount } } n)
            .setAccountStatus req .ok .none)
      ∧ exec (.setAccountStatus req n.val 2) s = .next (
          if x.status = .unloaded then answered o .setAccountStatus req .notFound .none
          else if x.status = .suspended then answered o .setAccountStatus req .ok .none
          else answered { o with accounts := s.accounts.set n { x with status := .suspended } }
            .setAccountStatus req .ok .none))

/-- CHANGED ACCOUNTS (R11). -/
def Obligations.ChangedAccountsReportsAndClears : Prop :=
  ∀ (s : State) (req : Nat), s.resetLow = false →
    ∃ (numbers : List AccountNo) (more : Bool) (t : State),
      exec (.changedAccounts req) s = .next (answered t .changedAccounts req .ok (.changed more numbers))
      ∧ t = { s with window := none, accounts := t.accounts }
      ∧ numbers.length ≤ 32 ∧ numbers.Pairwise (· < ·)
      ∧ (∀ n ∈ numbers, (s.accounts.get n).changed = true)
      ∧ (∀ n : AccountNo, t.accounts.get n =
          if n ∈ numbers then { s.accounts.get n with changed := false } else s.accounts.get n)
      ∧ (∀ n m : AccountNo, (s.accounts.get n).changed = true → n ∉ numbers → m ∈ numbers → m < n)
      ∧ (numbers.length < 32 → ∀ n : AccountNo, (s.accounts.get n).changed = true → n ∈ numbers)
      ∧ (more = true ↔ ∃ n : AccountNo, (s.accounts.get n).changed = true ∧ n ∉ numbers)

/-- WRITE CARD (R14, R15), over a card map that keeps the law of R12. -/
def Obligations.WriteCardFillsItsBucket : Prop :=
  ∀ (s : State) (req : Nat) (p : CardPayload) (n : AccountNo) (b : BucketNo), s.resetLow = false → CardLaw s →
    (p.card = 0 ∨ 9999999999999999999 < p.card ∨ 480 ≤ p.account ∨ 999999 < p.ceiling ∨ 2 ≤ p.gated →
      exec (.writeCard req p) s = .next (answered { s with window := none } .writeCard req .badRequest .none))
    ∧ (1 ≤ p.card → p.card ≤ 9999999999999999999 → p.account = n.val → n.val < 480 → p.ceiling ≤ 999999 →
        p.gated ≤ 1 → b.val = p.card % 65521 % 256 →
      let x := s.accounts.get n
      let q := s.plans.get x.plan
      let e : CardEntry :=
        ⟨p.card, n, if p.ceiling = 0 then none else some p.ceiling, decide (p.gated = 1)⟩
      let write (w : WayNo) : State :=
        answered { s with window := none, cards := s.cards.set b ((s.cards.get b).set w (some e)) } .writeCard req .ok
          (.cardPlace b w)
      let low := p.ceiling ≠ 0 ∧ (x.status = .openAccount ∨ x.status = .suspended) ∧ q.loaded = true ∧ p.ceiling < q.m
      (low → exec (.writeCard req p) s = .next (answered { s with window := none } .writeCard req .badRequest .none))
      ∧ (¬ low →
        (∀ w : WayNo, (cardAt s b w).map CardEntry.card = some p.card → exec (.writeCard req p) s = .next (write w))
        ∧ ((∀ w : WayNo, (cardAt s b w).map CardEntry.card ≠ some p.card) →
          (∀ w : WayNo, cardAt s b w = none → (∀ v : WayNo, v < w → cardAt s b v ≠ none) →
            exec (.writeCard req p) s = .next (write w))
          ∧ ((∀ w : WayNo, cardAt s b w ≠ none) →
            exec (.writeCard req p) s = .next (answered { s with window := none } .writeCard req .bucketFull .none)))))

/-- REMOVE CARD and READ CARD (R16, R17), over a card map that keeps the law of R12. -/
def Obligations.RemoveAndReadCard : Prop :=
  ∀ (s : State) (req n : Nat) (b : BucketNo), s.resetLow = false → CardLaw s →
    (n = 0 ∨ 9999999999999999999 < n →
      exec (.removeCard req n) s = .next (answered { s with window := none } .removeCard req .badRequest .none)
      ∧ exec (.readCard req n) s = .next (answered { s with window := none } .readCard req .badRequest .none))
    ∧ (1 ≤ n → n ≤ 9999999999999999999 → b.val = n % 65521 % 256 →
      (∀ (w : WayNo) (e : CardEntry), cardAt s b w = some e → e.card = n →
        exec (.removeCard req n) s =
          .next (answered { s with window := none, cards := s.cards.set b ((s.cards.get b).set w none) }
            .removeCard req .ok .none)
        ∧ exec (.readCard req n) s =
            .next (answered { s with window := none } .readCard req .ok (.cardRead e b w)))
      ∧ ((∀ w : WayNo, (cardAt s b w).map CardEntry.card ≠ some n) →
        exec (.removeCard req n) s = .next (answered { s with window := none } .removeCard req .notFound .none)
        ∧ exec (.readCard req n) s = .next (answered { s with window := none } .readCard req .notFound .none)))

/-- WRITE PLAN (R20). -/
def Obligations.WritePlanChecksAndLoads : Prop :=
  ∀ (s : State) (req : Nat) (p : PlanPayload), s.resetLow = false →
    let inRange : Prop :=
      1 ≤ p.b1 ∧ p.b1 ≤ p.b2 ∧ p.b2 ≤ p.b3 ∧ p.b3 ≤ 65535
      ∧ (∀ c : ImpClass, (classGet p.rates c).t1 ≤ 65535 ∧ (classGet p.rates c).t2 ≤ 65535
          ∧ (classGet p.rates c).t3 ≤ 65535 ∧ (classGet p.rates c).t4 ≤ 65535)
      ∧ p.m ≤ 9999 ∧ 1 ≤ p.h ∧ p.h ≤ 999999 ∧ p.m ≤ p.h
    (8 ≤ p.number ∨ 2 ≤ p.loaded ∨ (p.loaded = 1 ∧ ¬ inRange) →
      exec (.writePlan req p) s = .next (answered { s with window := none } .writePlan req .badRequest .none))
    ∧ ∀ n : PlanNo, p.number = n.val → p.loaded = 0 ∨ (p.loaded = 1 ∧ inRange) →
      exec (.writePlan req p) s = .next (
        if (s.plans.get n).captures ≠ 0 then answered { s with window := none } .writePlan req .inUse .none
        else
          answered { s with
            window := none
            plans := s.plans.set n (if p.loaded = 0 then Plan.reset
              else ⟨true, p.b1, p.b2, p.b3, p.rates, p.m, p.h, 0⟩) } .writePlan req .ok .none)

/-- A local grant (R24, R26, R27), over a card map that keeps the law of R12. MODEL'S CHOICE, log entry 32: a JOB CLOSED pending in the station's slot does not keep the CARD from being taken. -/
def Obligations.CardGrantedLocally : Prop :=
  ∀ (s : State) (a : Addr) (sent : Option Message) (toggle : Bool) (n : Nat) (b : BucketNo) (w : WayNo)
    (e : CardEntry),
    Taking s a sent toggle → (s.stations.get a).state = .idle → 1 ≤ n → n ≤ 9999999999999999999 → CardLaw s →
    b.val = n % 65521 % 256 → cardAt s b w = some e → e.card = n →
    recordCheck s (s.accounts.get e.account) = none → SlotFree s →
    (s.accounts.get e.account).rights.gated = false → e.gated = false → ¬ FundsShort s (s.accounts.get e.account) →
    exec (.card (a.val + 1) toggle n) s = .next (
      let hold := holdGiven s (s.accounts.get e.account)
        (e.ceiling.getD (s.plans.get (s.accounts.get e.account).plan).h)
      taken (granted (heard s a sent) a e.account false e.ceiling hold) a
        ⟨toggle, .card, .result, .cardResult (.accepted hold)⟩)

/-- A card sent online (R25, R28, R29, R31, R33), over a card map that keeps the law of R12. MODEL'S CHOICE, log entry 32: a JOB CLOSED pending in the station's slot does not keep the CARD from being taken. -/
def Obligations.CardGoesOnline : Prop :=
  ∀ (s : State) (a : Addr) (sent : Option Message) (toggle : Bool) (n : Nat) (b : BucketNo)
    (lookup : Option CardLookup) (c : ChannelNo),
    Taking s a sent toggle → (s.stations.get a).state = .idle → 1 ≤ n → n ≤ 9999999999999999999 → CardLaw s →
    SlotFree s → b.val = n % 65521 % 256 →
    (lookup = none ∧ ∀ w : WayNo, (cardAt s b w).map CardEntry.card ≠ some n)
      ∨ (∃ (w : WayNo) (e : CardEntry), cardAt s b w = some e ∧ e.card = n
        ∧ lookup = some ⟨e.account, e.ceiling, e.gated⟩ ∧ recordCheck s (s.accounts.get e.account) = none
        ∧ ((s.accounts.get e.account).rights.gated = true ∨ e.gated = true)) →
    let t := seat (heard s a sent) a { s.stations.get a with
      state := .authorizing, authCard := some ⟨n, lookup⟩, timer := some ⟨.authorization, s.timers.authorization⟩ }
    ((s.channels.get c).busy = none → (∀ d : ChannelNo, d < c → (s.channels.get d).busy ≠ none) →
      exec (.card (a.val + 1) toggle n) s =
        .next (taken (channelled t c a n lookup) a ⟨toggle, .card, .result, .cardResult .pending⟩))
    ∧ ((∀ d : ChannelNo, (s.channels.get d).busy ≠ none) →
      exec (.card (a.val + 1) toggle n) s =
        .next (taken { t with waitQueue := t.waitQueue ++ [a] } a ⟨toggle, .card, .result, .cardResult .pending⟩))

/-- A CARD that is not granted and does not go online (R23, R24), over a card map that keeps the law of R12. -/
def Obligations.CardTurnedAway : Prop :=
  ∀ (s : State) (a : Addr) (sent : Option Message) (toggle : Bool) (n : Nat) (b : BucketNo) (why : DeclineReason),
    Taking s a sent toggle → 1 ≤ n → n ≤ 9999999999999999999 → CardLaw s → b.val = n % 65521 % 256 →
    ((s.stations.get a).state = .disabled →
      exec (.card (a.val + 1) toggle n) s =
        .next (taken (heard s a sent) a ⟨toggle, .card, .result, .cardResult (.declined .stationOff)⟩))
    ∧ ((s.stations.get a).state = .authorizing ∨ (s.stations.get a).state = .active
        ∨ (s.stations.get a).state = .held ∨ (s.stations.get a).state = .jammed
        ∨ (s.stations.get a).state = .closing →
      exec (.card (a.val + 1) toggle n) s =
        .next (taken (setStation (heard s a sent) a (idled s.timers (s.stations.get a))) a
          ⟨toggle, .card, .result, .cardResult .busy⟩))
    ∧ ((s.stations.get a).state = .idle →
      ((∀ w : WayNo, (cardAt s b w).map CardEntry.card ≠ some n) ∧ ¬ SlotFree s ∧ why = .journalFull)
      ∨ (∃ (w : WayNo) (e : CardEntry), cardAt s b w = some e ∧ e.card = n
        ∧ (recordCheck s (s.accounts.get e.account) = some why
          ∨ (recordCheck s (s.accounts.get e.account) = none
            ∧ ((¬ SlotFree s ∧ why = .journalFull)
              ∨ (SlotFree s ∧ (s.accounts.get e.account).rights.gated = false ∧ e.gated = false
                ∧ FundsShort s (s.accounts.get e.account) ∧ why = .funds))))) →
      exec (.card (a.val + 1) toggle n) s =
        .next (taken (seat (heard s a sent) a { s.stations.get a with
            state := restState s a, timer := none }) a
          ⟨toggle, .card, .result, .cardResult (.declined why)⟩))

/-- CANCEL (R34). -/
def Obligations.CancelEndsAnAuthorization : Prop :=
  ∀ (s : State) (a : Addr) (sent : Option Message) (toggle : Bool), Taking s a sent toggle →
    ((s.stations.get a).state = .authorizing →
      exec (.cancel (a.val + 1) toggle) s = .next (taken (unauthorized (heard s a sent) a) a
        ⟨toggle, .cancel, .result, .cardResult (.declined .cancelled)⟩))
    ∧ ((s.stations.get a).state ≠ .authorizing →
      exec (.cancel (a.val + 1) toggle) s =
        .next (taken (setStation (heard s a sent) a (idled s.timers (s.stations.get a))) a
          ⟨toggle, .cancel, .ignored, .none⟩))

/-- What an authorization gives up when it ends (R30, R32), in a state that keeps the law of stations and channels. -/
def Obligations.FreedChannelGoesToTheHead : Prop :=
  ∀ (s : State) (a : Addr) (c : ChannelNo), StationLaw s →
    (channelStation s c = some a →
      (s.waitQueue = [] →
        releaseAuthorization s a =
          { s with channels := s.channels.set c { s.channels.get c with busy := none } })
      ∧ ∀ (b : Addr) (q : List Addr) (card : AuthCard), s.waitQueue = b :: q →
          (s.stations.get b).authCard = some card →
        releaseAuthorization s a = { channelled s c b card.card card.lookup with waitQueue := q })
    ∧ (a ∈ s.waitQueue → releaseAuthorization s a = { s with waitQueue := s.waitQueue.erase a })
    ∧ ((s.stations.get a).state ≠ .authorizing → releaseAuthorization s a = s)

/-- APPROVE ACCOUNT applied (R36). DEDUCED, log entry 17: where the freed channel goes to a waiting station, its AUTH_REQUEST is placed before JOURNAL_LEVEL. MODEL'S CHOICE, log entry 32: a JOB CLOSED pending in the station's slot stays beside the CARD RESULT. -/
def Obligations.ApproveAccountGrants : Prop :=
  ∀ (s : State) (req : Nat) (t : Tag) (r : AuthRecord) (n : AccountNo) (hold : Option Nat), s.resetLow = false →
    (s.channels.get t.channel).busy = some r → (s.channels.get t.channel).generation = t.generation →
    n.val < 480 → (∀ k, hold = some k → 1 ≤ k ∧ k ≤ 999999) →
    recordCheck s (s.accounts.get n) = none → SlotFree s → ¬ FundsShort s (s.accounts.get n) →
    exec (.approveAccount req (tagSent t) n.val hold) s = .next (
      let ceiling := r.lookup.bind CardLookup.ceiling
      let given := holdGiven s (s.accounts.get n)
        (hold.getD (ceiling.getD (s.plans.get (s.accounts.get n).plan).h))
      answered (slotted (granted { s with window := none } r.station n false ceiling given) r.station
        (.accepted given)) .authorizationAnswer req .ok (.verdict none))

/-- APPROVE GUEST applied (R37). DEDUCED, log entry 17: where the freed channel goes to a waiting station, its AUTH_REQUEST is placed before JOURNAL_LEVEL. MODEL'S CHOICE, log entry 32: a JOB CLOSED pending in the station's slot stays beside the CARD RESULT. -/
def Obligations.ApproveGuestGrants : Prop :=
  ∀ (s : State) (req amount : Nat) (t : Tag) (r : AuthRecord) (p : PlanNo) (rights : Byte) (n : AccountNo),
    s.resetLow = false →
    (s.channels.get t.channel).busy = some r → (s.channels.get t.channel).generation = t.generation →
    1 ≤ amount → amount ≤ 999999 → rights.toNat < 64 → (rightsIn rights).mono = true →
    s.mode ≠ .closed → (s.mode = .afterHours → (rightsIn rights).afterHours = true) →
    (s.mode = .service → (rightsIn rights).service = true) → (s.plans.get p).loaded = true → SlotFree s →
    (s.mode ≠ .service → max (s.plans.get p).m 1 ≤ amount) →
    480 ≤ n.val → (s.accounts.get n).status = .free →
    (∀ k : AccountNo, 480 ≤ k.val → k < n → (s.accounts.get k).status ≠ .free) →
    exec (.approveGuest req (tagSent t) amount p.val rights) s = .next (
      let given := if s.mode = .service then 0 else min amount (s.plans.get p).h
      let x : Account :=
        { status := .guest, balance := amount, creditLimit := 0, holdsTotal := 0, openJobs := 0, plan := p
          discount := 0, rights := rightsIn rights, changed := false, guestTag := some t }
      answered (slotted (granted { s with window := none, accounts := s.accounts.set n x } r.station n true none
        given) r.station (.accepted given)) .authorizationAnswer req .ok (.verdict none))

/-- AUTHORIZATION ANSWERs that grant nothing (R35 to R39), and the authorization timer (R33). DEDUCED, log entry 16: an approval taken in CLOSED mode is refused MODE; R36 and R37 name no reason for it. MODEL'S CHOICE, log entry 32: a JOB CLOSED pending in the station's slot stays beside the CARD RESULT. -/
def Obligations.VerdictsThatGrantNothing : Prop :=
  ∀ (s : State) (req : Nat) (t : Tag) (r : AuthRecord) (n : AccountNo) (p : PlanNo) (hold : Option Nat)
    (amount reason tag account plan : Nat) (rights : Byte) (why : DeclineReason) (a : Addr), s.resetLow = false →
    let o := { s with window := none }
    let refused (y : DeclineReason) : State :=
      answered (slotted (unauthorized o r.station) r.station (.declined y)) .authorizationAnswer req .ok
        (.verdict (some y))
    ((s.channels.get t.channel).busy = some r → (s.channels.get t.channel).generation = t.generation →
      (reason ≤ 255 → exec (.decline req (tagSent t) reason) s = .next
        (answered (slotted (unauthorized o r.station) r.station (.declined (.office reason)))
          .authorizationAnswer req .ok (.verdict none)))
      ∧ (n.val < 480 → (∀ k, hold = some k → 1 ≤ k ∧ k ≤ 999999) →
        recordCheck s (s.accounts.get n) = some why
          ∨ (recordCheck s (s.accounts.get n) = none
            ∧ ((¬ SlotFree s ∧ why = .journalFull)
              ∨ (SlotFree s ∧ FundsShort s (s.accounts.get n) ∧ why = .funds))) →
        exec (.approveAccount req (tagSent t) n.val hold) s = .next (refused why))
      ∧ (1 ≤ amount → amount ≤ 999999 → rights.toNat < 64 →
        (if (rightsIn rights).mono = false then some .noRights
          else if (s.mode = .afterHours ∧ (rightsIn rights).afterHours = false)
            ∨ (s.mode = .service ∧ (rightsIn rights).service = false) ∨ s.mode = .closed then some .mode
          else if (s.plans.get p).loaded = false then some .noPlan
          else if 256 ≤ s.journal.length + s.reservations then some .journalFull
          else if s.mode ≠ .service ∧ amount < max (s.plans.get p).m 1 then some .funds
          else if guestSlots.all (fun k => (s.accounts.get k).status != .free) then some .noGuestSlot
          else none) = some why →
        exec (.approveGuest req (tagSent t) amount p.val rights) s = .next (refused why)))
    ∧ ((s.stations.get a).state = .authorizing → (s.stations.get a).timer.map RunningTimer.kind = some .authorization →
      exec (.authorizationTimerExpiry (a.val + 1)) s =
        .next (slotted (unauthorized s a) a (.declined .timeout)))
    ∧ (let bad := .next (answered { s with window := none } .authorizationAnswer req .badRequest .none)
    let void := .next (answered { s with window := none } .authorizationAnswer req .void .none)
    (16384 ≤ tag ∨ 480 ≤ account ∨ hold = some 0 ∨ (∃ k, hold = some k ∧ 999999 < k) →
      exec (.approveAccount req tag account hold) s = bad)
    ∧ (16384 ≤ tag ∨ amount = 0 ∨ 999999 < amount ∨ 8 ≤ plan ∨ 64 ≤ rights.toNat →
      exec (.approveGuest req tag amount plan rights) s = bad)
    ∧ (16384 ≤ tag ∨ 255 < reason → exec (.decline req tag reason) s = bad)
    ∧ ((s.channels.get t.channel).busy = none ∨ (s.channels.get t.channel).generation ≠ t.generation →
      tag = tagSent t →
      (account < 480 → (∀ k, hold = some k → 1 ≤ k ∧ k ≤ 999999) →
        exec (.approveAccount req tag account hold) s = void)
      ∧ (1 ≤ amount → amount ≤ 999999 → plan < 8 → rights.toNat < 64 →
        exec (.approveGuest req tag amount plan rights) s = void)
      ∧ (reason ≤ 255 → exec (.decline req tag reason) s = void)))

/-- A granted FEED (R49, R50, R72). -/
def Obligations.FeedWithinTheHold : Prop :=
  ∀ (s : State) (a : Addr) (sent : Option Message) (toggle : Bool) (sheet : U16) (sides : Sides) (j : Job),
    Taking s a sent toggle → (s.stations.get a).state = .active → jobAt s a = some j →
    sheet.val = j.nextFeed → 1 ≤ sheet.val →
    (∀ c ∈ sideClasses sides, classGet (s.presence.get a).capabilities c = true ∧ rightsAdmit j.rights c = true) →
    j.inFlight.length < 8 →
    (j.total + (j.inFlight.map InFlight.price).sum + (feedEntry s j sheet.val sides).price + 99) / 100 ≤ j.hold →
    exec (.feed (a.val + 1) toggle sheet sides) s = .next (
      let e := feedEntry s j sheet.val sides
      taken (setStation (heard s a sent) a { s.stations.get a with
          timer := none
          job := some { j with
            inFlight := j.inFlight ++ [e], nextFeed := sheet.val + 1, highest := max j.highest sheet.val } }) a
        ⟨toggle, .feed, .granted sheet.val e.price, .none⟩)

/-- A refused FEED (R48, R49). -/
def Obligations.FeedRefused : Prop :=
  ∀ (s : State) (a : Addr) (sent : Option Message) (toggle : Bool) (sheet : U16) (sides : Sides) (j : Job)
    (why : FeedRefusal), Taking s a sent toggle →
    let refused : Host.Outcome State Fault Refusal :=
      .next (taken (setStation (heard s a sent) a (idled s.timers (s.stations.get a))) a
        ⟨toggle, .feed, .refused why, .none⟩)
    let n := if sheet.val = 0 then 65536 else sheet.val
    ((s.stations.get a).state = .active → jobAt s a = some j →
      (if n ≠ j.nextFeed then some (.sequence j.nextFeed)
        else if (sideClasses sides).any (fun c => !classGet (s.presence.get a).capabilities c) then some .cls
        else if (sideClasses sides).any (fun c => !rightsAdmit j.rights c) then some .rights
        else if 65535 < n then some .limit
        else if 8 ≤ j.inFlight.length then some .pathFull
        else none) = some why →
      exec (.feed (a.val + 1) toggle sheet sides) s = refused)
    ∧ (((s.stations.get a).state = .held ∧ why = .held) ∨ ((s.stations.get a).state = .jammed ∧ why = .jammed)
        ∨ ((s.stations.get a).state = .closing ∧ why = .closing)
        ∨ (((s.stations.get a).state = .offline ∨ (s.stations.get a).state = .disabled
          ∨ (s.stations.get a).state = .idle ∨ (s.stations.get a).state = .authorizing) ∧ why = .noJob) →
      exec (.feed (a.val + 1) toggle sheet sides) s = refused)

/-- The short case of the hold check (R72, R80 to R82). -/
def Obligations.FeedBeyondTheHold : Prop :=
  ∀ (s : State) (a : Addr) (sent : Option Message) (toggle : Bool) (sheet : U16) (sides : Sides) (j : Job)
    (wanted : Nat), Taking s a sent toggle → (s.stations.get a).state = .active → jobAt s a = some j →
    sheet.val = j.nextFeed → 1 ≤ sheet.val →
    (∀ c ∈ sideClasses sides, classGet (s.presence.get a).capabilities c = true ∧ rightsAdmit j.rights c = true) →
    j.inFlight.length < 8 →
    wanted = (j.total + (j.inFlight.map InFlight.price).sum + (feedEntry s j sheet.val sides).price + 99) / 100 →
    j.hold < wanted →
    exec (.feed (a.val + 1) toggle sheet sides) s = .next (
      let e := feedEntry s j sheet.val sides
      let h := heard s a sent
      let x := s.accounts.get j.account
      let more := (offered s j).toNat
      if 0 < offered s j ∧ (wanted : Int) ≤ j.hold + offered s j then
        taken { h with
            accounts := h.accounts.set j.account { x with holdsTotal := x.holdsTotal + more }
            stations := h.stations.set a { s.stations.get a with
              timer := none
              job := some { j with
                hold := j.hold + more, inFlight := j.inFlight ++ [e], nextFeed := sheet.val + 1
                highest := max j.highest sheet.val } } } a
          ⟨toggle, .feed, .granted sheet.val e.price, .none⟩
      else
        taken (seat { h with presence := h.presence.set a { h.presence.get a with resume := false } } a
            { s.stations.get a with
              state := .held, wanted := some wanted, timer := some ⟨.holdWait, s.timers.holdWait⟩ }) a
          ⟨toggle, .feed, .refused .held, .none⟩)

/-- The in-flight entry of a sheet (R50, R66 to R68). -/
def Obligations.FeedEntryIsPriced : Prop :=
  ∀ (s : State) (j : Job) (n : Nat) (one two : ImpClass),
    let p := s.plans.get j.plan
    let k := j.charged.sMono + j.charged.sColour + j.charged.sFull + j.charged.lMono + j.charged.lColour
      + j.charged.lFull
      + (j.inFlight.map fun e => (if e.one.kind = .priced ∨ e.one.kind = .service then 1 else 0)
          + match e.two with
            | some d => if d.kind = .priced ∨ d.kind = .service then 1 else 0
            | none => 0).sum + 1
    let rate (c : ImpClass) (i : Nat) : Nat :=
      if i ≤ p.b1 then (classGet p.rates c).t1 else if i ≤ p.b2 then (classGet p.rates c).t2
      else if i ≤ p.b3 then (classGet p.rates c).t3 else (classGet p.rates c).t4
    let kind : PriceKind := if j.service then .service else if s.freeVend then .free else .priced
    (n ≤ j.confirmed →
      feedEntry s j n (.simplex one) = ⟨n, ⟨one, .duplicate⟩, none, 0, none, true⟩
      ∧ feedEntry s j n (.duplex one two) = ⟨n, ⟨one, .duplicate⟩, some ⟨two, .duplicate⟩, 0, none, true⟩)
    ∧ (j.confirmed < n →
      feedEntry s j n (.simplex one) =
        ⟨n, ⟨one, kind⟩, none, if kind = .priced then rate one k else 0, some k, false⟩
      ∧ feedEntry s j n (.duplex one two) =
        ⟨n, ⟨one, kind⟩, some ⟨two, kind⟩, if kind = .priced then rate one k + rate two (k + 1) else 0,
          some k, false⟩)

/-- A matching delivery (R51), and the end of a drain (R56). MODEL'S CHOICE, log entry 8: the ANSWER that ends a drain carries TAKEN with JOB CLOSED attached. -/
def Obligations.DeliveryCharged : Prop :=
  ∀ (s : State) (a : Addr) (sent : Option Message) (toggle : Bool) (sheet : U16) (j : Job) (e : InFlight)
    (rest : List InFlight) (why : EndReason), Taking s a sent toggle → jobAt s a = some j → j.inFlight = e :: rest →
    e.sheet = sheet.val →
    ((s.stations.get a).state = .active ∨ (s.stations.get a).state = .held
        ∨ ((s.stations.get a).state = .closing ∧ rest ≠ []) →
      exec (.delivered (a.val + 1) toggle sheet) s = .next (
        taken (setStation (countSheet (heard s a sent) a j.service e) a
            (idled s.timers { s.stations.get a with job := some (deliverEntry j e rest) })) a
          ⟨toggle, .delivered, .taken sheet.val, .none⟩))
    ∧ ((s.stations.get a).state = .closing → (s.stations.get a).pendingEnd = some why → rest = [] →
      exec (.delivered (a.val + 1) toggle sheet) s = .next (
        let t := setStation (countSheet (heard s a sent) a j.service e) a
          { s.stations.get a with job := some (deliverEntry j e []) }
        taken (settled t a why (deliverEntry j e [])) a
          ⟨toggle, .delivered, .taken sheet.val, .jobClosed (closedNote t why (deliverEntry j e []))⟩))

/-- The counts of a delivery on the job record and on the meters (R51, R132), for meters in their range. -/
def Obligations.DeliveryCountsEverySide : Prop :=
  ∀ (s : State) (a : Addr) (j : Job) (e : InFlight) (rest : List InFlight) (c : ImpClass),
    let sides : List Side := e.one :: e.two.toList
    let priced := (sides.filter fun d => d.cls == c && (d.kind == .priced || d.kind == .service)).length
    let free := (sides.filter fun d => d.kind == .free).length
    let k := deliverEntry j e rest
    let m := s.meters.get a
    let v := (countSheet s a j.service e).meters.get a
    k = { j with
      total := k.total, confirmed := k.confirmed, charged := k.charged, freeVend := k.freeVend
      duplicates := k.duplicates, inFlight := rest }
    ∧ (e.duplicate = true → k.total = j.total ∧ k.confirmed = j.confirmed ∧ k.charged = j.charged
        ∧ k.freeVend = j.freeVend ∧ k.duplicates = j.duplicates + sides.length)
    ∧ (e.duplicate = false → k.total = j.total + e.price ∧ k.confirmed = e.sheet ∧ k.duplicates = j.duplicates
        ∧ k.freeVend = j.freeVend + free ∧ classGet k.charged c = classGet j.charged c + priced)
    ∧ countSheet s a j.service e = { s with meters := s.meters.set a v }
    ∧ (m.all (fun x => decide (x ≤ 99999999)) = true →
      classGet v.classes c = (classGet m.classes c
          + if j.service then 0 else (sides.filter fun d => d.cls == c).length) % 100000000
      ∧ v.service = (m.service + if j.service then sides.length else 0) % 100000000
      ∧ v.duplicate = (m.duplicate + if e.duplicate then sides.length else 0) % 100000000
      ∧ v.writtenOff = m.writtenOff ∧ v.jams = m.jams)

/-- Jams and order errors by state (R52, R96, R97, R99, R100). MODEL'S CHOICE, log entry 34: a DELIVERED of sheet number 0 is an event like any other that does not match. -/
def Obligations.JamsAndOrderErrors : Prop :=
  ∀ (s : State) (a : Addr) (sent : Option Message) (toggle : Bool) (location : Byte) (sheet : U16) (j : Job)
    (why : EndReason), Taking s a sent toggle →
    let counted (cause : JamCause) : State := jamCounted (heard s a sent) a cause
    let jammed (cause : JamCause) : State :=
      seat (counted cause) a { s.stations.get a with
        state := .jammed, job := some { j with inFlight := [] }, wanted := none
        timer := some ⟨.jam, s.timers.jam⟩
        engine := { (s.stations.get a).engine with lastJam := cause } }
    ((s.stations.get a).state = .active ∨ (s.stations.get a).state = .held → jobAt s a = some j →
      exec (.jam (a.val + 1) toggle location) s =
        .next (taken (jammed (.location location)) a ⟨toggle, .jam, .jammed, .none⟩)
      ∧ (j.inFlight.head?.map InFlight.sheet ≠ some sheet.val →
        exec (.delivered (a.val + 1) toggle sheet) s =
          .next (taken (jammed .order) a ⟨toggle, .delivered, .order, .none⟩)))
    ∧ ((s.stations.get a).state = .closing → jobAt s a = some j → (s.stations.get a).pendingEnd = some why →
      exec (.jam (a.val + 1) toggle location) s = .next (taken (settled (counted (.location location)) a why j) a
          ⟨toggle, .jam, .closed, .jobClosed (closedNote s why j)⟩)
      ∧ (j.inFlight.head?.map InFlight.sheet ≠ some sheet.val →
        exec (.delivered (a.val + 1) toggle sheet) s = .next (taken (settled (counted .order) a why j) a
          ⟨toggle, .delivered, .order, .jobClosed (closedNote s why j)⟩)))
    ∧ ((s.stations.get a).state = .jammed →
      exec (.jam (a.val + 1) toggle location) s =
          .next (taken (counted (.location location)) a ⟨toggle, .jam, .counted, .none⟩)
      ∧ exec (.delivered (a.val + 1) toggle sheet) s =
          .next (taken (counted .order) a ⟨toggle, .delivered, .order, .none⟩))
    ∧ ((s.stations.get a).state = .offline ∨ (s.stations.get a).state = .disabled
        ∨ (s.stations.get a).state = .idle ∨ (s.stations.get a).state = .authorizing →
      exec (.jam (a.val + 1) toggle location) s =
          .next (taken (counted (.location location)) a ⟨toggle, .jam, .ignored, .none⟩)
      ∧ exec (.delivered (a.val + 1) toggle sheet) s =
          .next (taken (heard s a sent) a ⟨toggle, .delivered, .ignored, .none⟩))

/-- RECOVERED (R105 to R107, R109). -/
def Obligations.RecoveryRestartsAtItsNumber : Prop :=
  ∀ (s : State) (a : Addr) (sent : Option Message) (toggle : Bool) (restart : U16) (j : Job),
    Taking s a sent toggle →
    ((s.stations.get a).state = .jammed → jobAt s a = some j →
      exec (.recovered (a.val + 1) toggle restart) s = .next (
        let e := (s.stations.get a).engine
        let h := heard s a sent
        let r := restart.val
        let w := r - 1 - j.confirmed
        let m := s.meters.get a
        if e.flags.doorOpen = true ∨ e.flags.engineReady = false then
          taken h a ⟨toggle, .recovered, .notReady, .none⟩
        else if r = 0 ∨ j.highest + 1 < r then taken h a ⟨toggle, .recovered, .protocol, .none⟩
        else
          taken (seat { h with
              meters := h.meters.set a { m with writtenOff := rolled m.writtenOff w }
              notices := placeIn (.stationStatus a) h.notices } a
            (idled s.timers { s.stations.get a with
              state := .active, timer := none
              job := some { j with
                nextFeed := r, confirmed := max j.confirmed (r - 1), writtenOff := j.writtenOff + w } })) a
            ⟨toggle, .recovered, .restarted r w, .none⟩))
    ∧ ((s.stations.get a).state ≠ .jammed →
      exec (.recovered (a.val + 1) toggle restart) s =
        .next (taken (setStation (heard s a sent) a (idled s.timers (s.stations.get a))) a
          ⟨toggle, .recovered, .ignored, .none⟩))

/-- STATUS (R103). -/
def Obligations.StatusKeepsAndLatches : Prop :=
  ∀ (s : State) (a : Addr) (sent : Option Message) (toggle : Bool) (f : EngineFlags), Taking s a sent toggle →
    exec (.status (a.val + 1) toggle f) s = .next (
      let e := (s.stations.get a).engine
      let h := heard s a sent
      taken (setStation { h with
          notices := if f = e.flags then h.notices else placeIn (.stationStatus a) h.notices } a
        (idled s.timers { s.stations.get a with
          engine := {
            flags := f, lastJam := e.lastJam
            doorLatch := decide (e.doorLatch = true ∨ (e.flags.doorOpen = false ∧ f.doorOpen = true))
            paperLatch := decide (e.paperLatch = true ∨ (e.flags.paperOut = false ∧ f.paperOut = true))
            tonerLatch := decide (e.tonerLatch = true ∨ (e.flags.tonerLow = false ∧ f.tonerLow = true)) } })) a
        ⟨toggle, .status, .noted, .none⟩)

/-- FINISH (R54), with the entry to CLOSING (R55) and the close (R57). -/
def Obligations.FinishClosesByState : Prop :=
  ∀ (s : State) (a : Addr) (sent : Option Message) (toggle : Bool) (j : Job), Taking s a sent toggle →
    ((s.stations.get a).state = .active ∨ (s.stations.get a).state = .held → jobAt s a = some j →
      exec (.finish (a.val + 1) toggle) s = .next (
        if j.inFlight = [] then
          taken (settled (heard s a sent) a .finished j) a
            ⟨toggle, .finish, .closed, .jobClosed (closedNote s .finished j)⟩
        else taken (draining (heard s a sent) a .finished) a ⟨toggle, .finish, .closing, .none⟩))
    ∧ ((s.stations.get a).state = .jammed → jobAt s a = some j →
      exec (.finish (a.val + 1) toggle) s = .next (
        taken (settled (heard s a sent) a .finished j) a
          ⟨toggle, .finish, .closed, .jobClosed (closedNote s .finished j)⟩))
    ∧ (¬ hasOpenJob (s.stations.get a).state = true ∨ (s.stations.get a).state = .closing →
      exec (.finish (a.val + 1) toggle) s =
        .next (taken (heard s a sent) a ⟨toggle, .finish, .ignored, .none⟩))

/-- The expiries of the timers of an open job (R53, R56, R61, R84, R111). MODEL'S CHOICE, log entry 4: the expiry of a timer that does not run has no effect. DEDUCED, log entry 18: a close from DETACHED with JAMMED remembered places no STATION_STATUS notice. -/
def Obligations.StationTimersClose : Prop :=
  ∀ (s : State) (a : Addr) (j : Job) (why : EndReason) (k : TimerKind), s.resetLow = false →
    let r := s.stations.get a
    let runs (k : TimerKind) : Prop := r.timer.map RunningTimer.kind = some k
    (jobAt s a = some j →
      (r.state = .active → runs .idle →
        exec (.idleTimerExpiry (a.val + 1)) s = .next (closingAway s a .idle j))
      ∧ (r.state = .held → runs .holdWait →
        exec (.holdWaitTimerExpiry (a.val + 1)) s = .next (closingAway s a .funds j))
      ∧ (r.state = .jammed → runs .jam →
        exec (.jamTimerExpiry (a.val + 1)) s = .next (closedAway s a .jamAbandoned j))
      ∧ (r.state = .closing → runs .drain → r.pendingEnd = some why →
        exec (.drainTimerExpiry (a.val + 1)) s = .next (closedAway s a why j))
      ∧ (r.state = .detached → runs .reconnectGrace →
        exec (.reconnectGraceExpiry (a.val + 1)) s = .next (closedAway s a .stationLost j)))
    ∧ (¬ runs k → exec (expiryOf k a) s = .next s)

/-- END JOB (R58). DEDUCED, log entry 18: a close from DETACHED with JAMMED remembered places no STATION_STATUS notice. -/
def Obligations.EndJobByState : Prop :=
  ∀ (s : State) (req addr : Nat) (a : Addr) (j : Job), s.resetLow = false →
    let o := { s with window := none }
    (addr = 0 ∨ 16 < addr → exec (.endJob req addr) s = .next (answered o .endJob req .badRequest .none))
    ∧ ((s.stations.get a).state = .offline ∨ (s.stations.get a).state = .disabled
        ∨ (s.stations.get a).state = .idle →
      exec (.endJob req (a.val + 1)) s = .next (answered o .endJob req .wrongState .none))
    ∧ ((s.stations.get a).state = .authorizing →
      exec (.endJob req (a.val + 1)) s =
        .next (answered (slotted (unauthorized o a) a (.declined .forced)) .endJob req .ok .none))
    ∧ (hasOpenJob (s.stations.get a).state = true → jobAt s a = some j →
      exec (.endJob req (a.val + 1)) s = .next (answered (forcedAway o a j) .endJob req .ok .none))

/-- Tiers (R67), and the charge of a job from T, its discount and m (R75 to R77). -/
def Obligations.PricesAndCharges : Prop :=
  ∀ (p : Plan) (r : TierRates) (n m : Nat) (j : Job), 1 ≤ n → p.b1 ≤ p.b2 → p.b2 ≤ p.b3 →
    (n ≤ p.b1 → tierRate p n r = r.t1)
    ∧ (p.b1 + 1 ≤ n → n ≤ p.b2 → tierRate p n r = r.t2)
    ∧ (p.b2 + 1 ≤ n → n ≤ p.b3 → tierRate p n r = r.t3)
    ∧ (p.b3 < n → tierRate p n r = r.t4)
    ∧ (let d := j.total * (1000 - j.discount) / 1000
      let pricedOnce := j.service = false
        ∧ 1 ≤ j.charged.sMono + j.charged.sColour + j.charged.sFull + j.charged.lMono + j.charged.lColour
          + j.charged.lFull
      discounted j.total j.discount = d ∧ d ≤ j.total ∧ (j.discount = 0 → d = j.total)
      ∧ rounded d = (d + 50) / 100
      ∧ (pricedOnce → (d + 50) / 100 < m → chargeOf m j = m ∧ minimumApplies m j = true)
      ∧ (¬ (pricedOnce ∧ (d + 50) / 100 < m) → chargeOf m j = (d + 50) / 100 ∧ minimumApplies m j = false))

/-- The second half of the law of R73, from its first half and the law of accounts (R78). -/
def Obligations.ChargeNeverExceedsTheHold : Prop :=
  ∀ (s : State) (a : Addr) (j : Job), HoldLaw s → AccountLaw s → jobAt s a = some j →
    chargeOf (s.plans.get j.plan).m j ≤ j.hold
    ∧ (closedNote s .finished j).charge ≤ j.hold

/-- The retries on new funds (R80, R85, R86), one station and a whole account. -/
def Obligations.RetriesOnNewFunds : Prop :=
  ∀ (s : State) (n : AccountNo) (a : Addr) (j : Job) (wanted : Nat),
    ((s.stations.get a).state = .held → jobAt s a = some j → (s.stations.get a).wanted = some wanted →
      retryStation s a =
        if 0 < offered s j ∧ (wanted : Int) ≤ j.hold + offered s j then
          let x := s.accounts.get j.account
          let more := (offered s j).toNat
          seat { s with
              accounts := s.accounts.set j.account { x with holdsTotal := x.holdsTotal + more }
              awaiting := forgot s.awaiting a [.resume]
              presence := s.presence.set a { s.presence.get a with resume := true } } a
            (idled s.timers { s.stations.get a with
              state := .active, timer := none, wanted := none, job := some { j with hold := j.hold + more } })
        else s)
    ∧ retryAccount s n = (List.finRange 16).foldl (fun (u : State) (b : Addr) =>
        if (s.stations.get b).state = .held ∧ (jobAt s b).map Job.account = some n then retryStation u b else u) s
    ∧ (∀ b : Addr, (s.stations.get b).state ≠ .held ∨ (jobAt s b).map Job.account ≠ some n →
      (retryAccount s n).stations.get b = s.stations.get b ∧ (retryAccount s n).presence.get b = s.presence.get b)
    ∧ (∀ k : AccountNo, k ≠ n → (retryAccount s n).accounts.get k = s.accounts.get k)
    ∧ { (retryAccount s n).accounts.get n with holdsTotal := 0 } = { s.accounts.get n with holdsTotal := 0 }
    ∧ retryAccount s n = { s with
        accounts := (retryAccount s n).accounts, stations := (retryAccount s n).stations
        presence := (retryAccount s n).presence, awaiting := (retryAccount s n).awaiting }

/-- ADJUST ACCOUNT (R123, R124). -/
def Obligations.AdjustAccountSaturates : Prop :=
  ∀ (s : State) (req account : Nat) (n : AccountNo) (delta : Int) (reason : Nat), s.resetLow = false →
    let o := { s with window := none }
    (512 ≤ account ∨ delta < -9999999 ∨ 9999999 < delta ∨ 255 < reason →
      exec (.adjustAccount req account delta reason) s = .next (answered o .adjustAccount req .badRequest .none))
    ∧ (-9999999 ≤ delta → delta ≤ 9999999 → reason ≤ 255 →
      exec (.adjustAccount req n.val delta reason) s = .next (
        let x := s.accounts.get n
        let b := max (-9999999) (min 99999999 (x.balance + delta))
        let t := { o with
          accounts := s.accounts.set n { x with balance := b, changed := true }
          journal := s.journal ++ [⟨s.nextSeq, .adjust ⟨n, delta, b - x.balance, reason, b⟩⟩]
          nextSeq := sequenceAfter s.nextSeq }
        let u := levelNoted (if 0 < b - x.balance then retryAccount t n else t)
        if x.status = .unloaded ∨ x.status = .free then answered o .adjustAccount req .noAccount .none
        else if 256 ≤ s.journal.length + s.reservations then answered o .adjustAccount req .journalFull .none
        else answered u .adjustAccount req .ok
          (.adjusted s.nextSeq delta (b - x.balance) b (b + x.creditLimit - (u.accounts.get n).holdsTotal))))

/-- SET FREE VEND, SET TIMERS, PAUSE and UNPAUSE (R62, R144, R160), and SET MODE where it meets nothing to end (R142). -/
def Obligations.SettingsTakeTheirValues : Prop :=
  ∀ (s : State) (req value : Nat) (m : ShopMode) (v : PerTimer (Option Nat)), s.resetLow = false →
    let o := { s with window := none }
    exec (.setFreeVend req 0) s = .next (answered { o with freeVend := false } .setFreeVend req .ok (.freeVend false))
    ∧ exec (.setFreeVend req 1) s = .next (answered { o with freeVend := true } .setFreeVend req .ok (.freeVend true))
    ∧ (2 ≤ value → exec (.setFreeVend req value) s = .next (answered o .setFreeVend req .badRequest .none))
    ∧ exec (.pause req) s = .next (answered { o with paused := true } .pause req .ok .none)
    ∧ exec (.unpause req) s = .next (answered { o with paused := false } .unpause req .ok .none)
    ∧ ((∀ a : Addr, atRest (s.stations.get a).state = true) → s.waitQueue = [] → s.mode ≠ .closed →
      (value = 0 ∧ m = .openShop) ∨ (value = 1 ∧ m = .afterHours) ∨ (value = 2 ∧ m = .service) →
      exec (.setMode req value) s =
        .next (answered { o with mode := m } .setMode req .ok (.modeChange s.mode m 0 0)))
    ∧ exec (.setTimers req v) s = .next (
        let set (lo hi old : Nat) (new : Option Nat) : Nat :=
          match new with
          | none => old
          | some x => if x < lo then lo else if hi < x then hi else x
        let t : PerTimer Nat :=
          { authorization := set 5 60 s.timers.authorization v.authorization
            idle := set 15 600 s.timers.idle v.idle
            holdWait := set 30 600 s.timers.holdWait v.holdWait
            jam := set 60 3600 s.timers.jam v.jam
            drain := set 10 120 s.timers.drain v.drain
            reconnectGrace := set 2 60 s.timers.reconnectGrace v.reconnectGrace }
        answered { o with timers := t } .setTimers req .ok (.timers t))

/-- SET MODE (R142, R143), in a state that keeps the law of stations. MODEL'S CHOICES: the order of the forced closes is free (log entry 2), the retries of a settlement follow the clearing of its station (log entry 7), no STATION_STATUS at a close from DETACHED with JAMMED remembered (log entry 18), and every owed sheet written off after a RECOVERED too (log entry 29). A job DETACHED with CLOSING remembered is closed by force and counted, at a change out of CLOSED too (log entry 31). -/
def Obligations.SetModeEndsAndForces : Prop :=
  ∀ (s : State) (req : Nat) (m : ShopMode) (mode : Nat), s.resetLow = false → StationLaw s →
    let o := { s with window := none }
    let named : Prop := (mode = 0 ∧ m = .openShop) ∨ (mode = 1 ∧ m = .afterHours) ∨ (mode = 2 ∧ m = .service)
      ∨ (mode = 3 ∧ m = .closed)
    let admits (j : Job) : Prop :=
      (m = .openShop ∧ j.service = false) ∨ (m = .afterHours ∧ j.service = false ∧ j.rights.afterHours = true)
      ∨ (m = .service ∧ j.service = true)
    let ended (a : Addr) : Prop := (s.stations.get a).state = .authorizing
    let forced (a : Addr) : Prop := (s.stations.get a).state ≠ .closing ∧ ∃ j : Job, jobAt s a = some j ∧ ¬ admits j
    let drains (a : Addr) (j : Job) : Prop :=
      ((s.stations.get a).state = .active ∨ (s.stations.get a).state = .held) ∧ j.inFlight ≠ []
    let crossed : Prop := s.mode = .closed ∨ m = .closed
    (4 ≤ mode → exec (.setMode req mode) s = .next (answered o .setMode req .badRequest .none))
    ∧ (named → m = s.mode →
      exec (.setMode req mode) s = .next (answered o .setMode req .ok (.modeChange m m 0 0)))
    ∧ (named → m ≠ s.mode → ∃ (u t : State) (order : List Addr) (added : List JournalRecord),
      exec (.setMode req mode) s = .next (answered t .setMode req .ok (.modeChange s.mode m
        (allAddrs.filter fun a => (s.stations.get a).state == .authorizing).length order.length))
      ∧ u = { o with
          mode := m, waitQueue := [], channels := u.channels, stations := u.stations, presence := u.presence
          awaiting := u.awaiting, freeTick := u.freeTick }
      ∧ (∀ c : ChannelNo, u.channels.get c = { s.channels.get c with busy := none })
      ∧ (∀ a : Addr, (ended a → u.stations.get a =
            { s.stations.get a with state := restState u a, authCard := none, timer := none }
          ∧ u.presence.get a = { s.presence.get a with line := false, cardResult := some (.declined .mode) })
        ∧ (¬ ended a → u.stations.get a = s.stations.get a ∧ u.presence.get a = s.presence.get a))
      ∧ ((∀ a : Addr, s.awaiting = .poll a (some .cardResult) → ¬ ended a) → u.awaiting = s.awaiting)
      ∧ (∀ a : Addr, s.awaiting = .poll a (some .cardResult) → ended a → u.awaiting = .poll a none)
      ∧ order.Nodup ∧ (∀ a : Addr, a ∈ order ↔ forced a)
      ∧ (let v := order.foldl forcedNow u
        t = { v with stations := t.stations, presence := t.presence }
        ∧ ∀ a : Addr,
          (crossed → atRest (v.stations.get a).state = true →
            t.stations.get a = { v.stations.get a with state := restState v a, timer := none }
            ∧ t.presence.get a = { v.presence.get a with line := false })
          ∧ (¬ crossed ∨ atRest (v.stations.get a).state = false →
            t.stations.get a = v.stations.get a ∧ t.presence.get a = v.presence.get a))
      ∧ t.journal = s.journal ++ added
      ∧ (∀ n : AccountNo, (∀ (a : Addr) (j : Job), forced a → jobAt s a = some j → j.account ≠ n) →
          t.accounts.get n = s.accounts.get n)
      ∧ (∀ p : PlanNo, { t.plans.get p with captures := 0 } = { s.plans.get p with captures := 0 })
      ∧ (∀ a : Addr, ¬ forced a → t.meters.get a = s.meters.get a)
      ∧ (∀ (a : Addr) (j : Job), jobAt s a = some j → ¬ forced a →
          (s.stations.get a).state ≠ .held
            ∨ (∀ (b : Addr) (k : Job), forced b → jobAt s b = some k → k.account ≠ j.account) →
          t.stations.get a = s.stations.get a ∧ t.presence.get a = s.presence.get a)
      ∧ (∀ a : Addr, ¬ crossed → atRest (s.stations.get a).state = true →
          t.stations.get a = s.stations.get a ∧ t.presence.get a = s.presence.get a)
      ∧ ∀ (a : Addr) (j : Job), forced a → jobAt s a = some j →
        (drains a j → (t.stations.get a).state = .closing ∧ (t.stations.get a).pendingEnd = some .forced
          ∧ (t.stations.get a).timer = some ⟨.drain, s.timers.drain⟩
          ∧ (jobAt t a).map Job.inFlight = some j.inFlight ∧ t.meters.get a = s.meters.get a)
        ∧ (¬ drains a j → (t.stations.get a).state = restState t a ∧ jobAt t a = none
          ∧ t.meters.get a = { s.meters.get a with
            writtenOff := rolled (s.meters.get a).writtenOff (j.highest - j.confirmed) }
          ∧ ((t.presence.get a).jobClosed.map fun c => (c.reason, c.writtenOff))
            = some (.forced, j.writtenOff + (j.highest - j.confirmed))
          ∧ ∃ r ∈ added, ∃ b : JobRecord, r.body = .job b ∧ b.station = a ∧ b.reason = .forced
            ∧ b.writtenOff = j.writtenOff + (j.highest - j.confirmed)))

/-- SET STATION ENABLE (R145). DEDUCED, log entry 18: a close from DETACHED with JAMMED remembered places no STATION_STATUS notice. -/
def Obligations.SetStationEnableActsByState : Prop :=
  ∀ (s : State) (req addr value : Nat) (a : Addr) (j : Job), s.resetLow = false →
    let o := { s with window := none }
    let r := s.stations.get a
    let reply (t : State) : Host.Outcome State Fault Refusal :=
      .next (answered t .setStationEnable req .ok (.stationEnable a (t.adminEnable.get a)
        (decide (t.adminEnable.get a = true ∧ t.mode ≠ .closed ∧ (t.presence.get a).state = .present))
        (t.stations.get a).state))
    let set (v : Bool) : State := { o with adminEnable := s.adminEnable.set a v }
    (addr = 0 ∨ 16 < addr ∨ 2 ≤ value →
      exec (.setStationEnable req addr value) s = .next (answered o .setStationEnable req .badRequest .none))
    ∧ (s.adminEnable.get a = true → exec (.setStationEnable req (a.val + 1) 1) s = reply o)
    ∧ (s.adminEnable.get a = false → exec (.setStationEnable req (a.val + 1) 0) s = reply o)
    ∧ (s.adminEnable.get a = false → exec (.setStationEnable req (a.val + 1) 1) s = reply (
        if r.state = .disabled then seat (set true) a { r with state := restState (set true) a, timer := none }
        else set true))
    ∧ (s.adminEnable.get a = true →
      (r.state = .offline ∨ r.state = .disabled ∨ r.state = .closing →
        exec (.setStationEnable req (a.val + 1) 0) s = reply (set false))
      ∧ (r.state = .idle → exec (.setStationEnable req (a.val + 1) 0) s =
          reply (seat (set false) a { r with state := restState (set false) a, timer := none }))
      ∧ (r.state = .authorizing → exec (.setStationEnable req (a.val + 1) 0) s =
          reply (slotted (unauthorized (set false) a) a (.declined .stationOff)))
      ∧ (hasOpenJob r.state = true → jobAt s a = some j →
          exec (.setStationEnable req (a.val + 1) 0) s = reply (forcedAway (set false) a j)))

/-- RESCAN FLOOR (R149), and the end of the visit or probe during which it was answered OK. MODEL'S CHOICE, log entry 5: a sweep asked for during a visit counts as running, and a CARD of that visit that would start a job or an authorization is not taken. -/
def Obligations.RescanFloorStartsASweep : Prop :=
  ∀ (s : State) (req : Nat) (a : Addr) (sent : Option Message) (c : Instr) (reply : ProbeReply) (addr number : Nat)
    (toggle : Bool), s.resetLow = false →
    let o := { s with window := none }
    let free := { s with sweep := .idle }
    let busy := ∃ a : Addr, hasOpenJob (s.stations.get a).state = true ∨ (s.stations.get a).state = .authorizing
    let ends (c : Instr) : Prop := ∃ t : State, exec c free = .next t ∧ exec c s = .next (sweepBegun t)
    (busy ∨ s.sweep ≠ .idle → exec (.rescanFloor req) s = .next (answered o .rescanFloor req .wrongState .none))
    ∧ (¬ busy → s.sweep = .idle → s.awaiting = .none →
      exec (.rescanFloor req) s = .next (answered { o with
        sweep := .running, awaiting := .sweepOne 0, roundPos := none, lastProbed := none
        floorTx := [.probe 0 85] } .rescanFloor req .ok .none))
    ∧ (¬ busy → s.sweep = .idle → s.awaiting ≠ .none →
      exec (.rescanFloor req) s = .next (answered { o with sweep := .requested } .rescanFloor req .ok .none))
    ∧ (s.sweep = .requested → s.awaiting = .poll a sent ∨ s.awaiting = .probe a →
      (ReplyButCard c → ends c)
      ∧ (s.awaiting = .probe a → ends (.probeReply reply))
      ∧ ∃ t : State, exec (.card addr toggle number) free = .next t
        ∧ exec (.card addr toggle number) s = .next (sweepBegun (
          if atRest ((cameBack s a sent).stations.get a).state = true ∧ atRest (t.stations.get a).state = false
          then cameBack s a sent else t)))

/-- The bulk-load window (R161, R162). -/
def Obligations.WindowsLoadRecordByRecord : Prop :=
  ∀ (s : State) (req table start count index : Nat) (w : Window) (record : WindowRecord), s.resetLow = false →
    let o := { s with window := none }
    let last := if table = 0 then 479 else if table = 1 then 1023 else 7
    let fails (t : State) (f : Figures) : Host.Outcome State Fault Refusal :=
      .next (answered t .windowData req .windowError f)
    (3 ≤ table ∨ count = 0 ∨ 512 < count ∨ last < start + count - 1 →
      exec (.openWindow req table start count) s = .next (answered o .openWindow req .badRequest .none))
    ∧ (∀ k : WindowTable, windowTableOf table = some k → 1 ≤ count → count ≤ 512 → start + count - 1 ≤ last →
      exec (.openWindow req table start count) s =
        .next (answered { o with window := some ⟨k, start, start + count - 1⟩ } .openWindow req .ok .none))
    ∧ (s.window = none → exec (.windowData req index record) s = fails s .none)
    ∧ (∀ bytes : List Byte, s.window = some w → exec (.windowData req index (.short bytes)) s = fails o .none)
    ∧ (s.window = some w → record.hasIndex = true →
      (index ≠ w.next → exec (.windowData req index record) s = fails s (.windowIndex w.next))
      ∧ (index = w.next →
        let next : Option Window := if w.next = w.last then none else some { w with next := w.next + 1 }
        let same (c : Instr) (k : OfficeKind) : Prop := ∃ (t : State) (status : Status) (f : Figures),
          exec c s = .next (answered t k req status f) ∧ t.window = none
          ∧ exec (.windowData req index record) s =
              .next (answered { t with window := next } .windowData req status (.windowIndex index))
        match w.table, record with
        | .accounts, .account p =>
          (p.number = index → same (.writeAccount req p) .writeAccount)
          ∧ (p.number ≠ index → exec (.windowData req index record) s =
              .next (answered { s with window := next } .windowData req .badRequest (.windowIndex index)))
        | .cards, .card p => same (.writeCard req p) .writeCard
        | .plans, .plan p =>
          (p.number = index → same (.writePlan req p) .writePlan)
          ∧ (p.number ≠ index → exec (.windowData req index record) s =
              .next (answered { s with window := next } .windowData req .badRequest (.windowIndex index)))
        | _, _ => exec (.windowData req index record) s = fails o .none))

/-- Panel text (R156, R164), and the frames that are no request (R157). -/
def Obligations.PanelTextsAndOtherFrames : Prop :=
  ∀ (s : State) (req dest kind : Nat) (p : PanelPayload) (a : Addr), s.resetLow = false →
    let ok : Prop := p.time ≤ 60 ∧ p.one.length ≤ 20 ∧ p.two.length ≤ 20
      ∧ (∀ c ∈ p.one, 32 ≤ c.toNat ∧ c.toNat ≤ 126) ∧ ∀ c ∈ p.two, 32 ≤ c.toNat ∧ c.toNat ≤ 126
    let q := s.presence.get a
    let room (b : Addr) : Bool :=
      ((s.presence.get b).state == .present || (s.presence.get b).state == .lost)
        && decide ((s.presence.get b).panel.length < 2)
    exec .discardedFrame s = .next s
    ∧ exec (.badRequestFrame dest kind req) s = .next { s with
        window := if dest = 0 ∧ kind ≠ 28 then none else s.window
        responses := s.responses ++ [⟨kind, req, .badRequest, .none⟩] }
    ∧ (1 ≤ dest → ¬ ok ∨ (16 < dest ∧ dest ≠ 255) →
      exec (.panelText req dest p) s = .next (answered s .panelText req .badRequest .none))
    ∧ (ok → exec (.panelText req (a.val + 1) p) s = .next (
        if q.state = .absent ∨ q.state = .conflict then answered s .panelText req .absent .none
        else if 2 ≤ q.panel.length then answered s .panelText req .panelBusy .none
        else answered { s with presence := s.presence.set a { q with panel := q.panel ++ [p] } }
          .panelText req .ok .none))
    ∧ (ok → ∃ t : Table PresenceRecord 16,
      exec (.panelText req 255 p) s = .next (answered { s with presence := t } .panelText req .ok
        (.placed (allAddrs.filter room).length))
      ∧ ∀ b : Addr, t.get b = if room b then { s.presence.get b with panel := (s.presence.get b).panel ++ [p] }
          else s.presence.get b)

/-- What the office link sends (R158, R159), with the contents of notices (R104, R129). -/
def Obligations.FramesGoOutByTheArbiter : Prop :=
  ∀ s : State, s.resetLow = false →
    exec .sendResponse s = .next (match s.responses with
      | [] => s
      | r :: q => { s with responses := q, officeTx := [.response r] })
    ∧ (s.responses ≠ [] ∨ s.paused = true ∨ s.notices = [] → exec .sendNotice s = .next s)
    ∧ (s.responses = [] → s.paused = false →
      (∀ (r : AuthRequest) (q : List NoticeEntry), s.notices = .authRequest r :: q →
        exec .sendNotice s = .next { s with notices := q, officeTx := [.notice (.authRequest r)] })
      ∧ (∀ (a : Addr) (q : List NoticeEntry), s.notices = .stationStatus a :: q →
        exec .sendNotice s = .next { s with
          notices := q
          officeTx := [.notice (.stationStatus a (s.stations.get a).state (s.stations.get a).engine
            (s.meters.get a).jams)]
          stations := s.stations.set a { s.stations.get a with
            engine := { (s.stations.get a).engine with doorLatch := false, paperLatch := false, tonerLatch := false } } })
      ∧ ∀ q : List NoticeEntry, s.notices = .journalLevel :: q →
        exec .sendNotice s = .next { s with
          notices := q
          officeTx := [.notice (.journalLevel s.journal.length s.reservations
            (256 - s.journal.length - s.reservations) (s.journal.head?.map JournalRecord.sequence)
            (s.journal.getLast?.map JournalRecord.sequence))] })

/-- The rounds of the floor link (R150), with the order of the station messages (R155). MODEL'S CHOICE, log entry 4: VISIT and ABSENT_PROBE have no effect while a sweep runs or a reply is awaited. -/
def Obligations.RoundsVisitAndProbe : Prop :=
  ∀ (s : State) (a : Addr), s.resetLow = false →
    let polled (b : Addr) : Prop := (s.presence.get b).state = .present ∨ (s.presence.get b).state = .lost
    let missing (b : Addr) : Prop := (s.presence.get b).state = .absent
    let later (b : Addr) : Prop := ∀ c : Addr, s.roundPos = some c → c < b
    let above (b : Addr) : Prop := ∀ c : Addr, s.lastProbed = some c → c < b
    let q := s.presence.get a
    let visited (sent : Option Message) (message : List FloorFrame) : State :=
      { s with awaiting := .poll a sent, roundPos := some a, floorTx := message ++ [.poll a] }
    (s.sweep ≠ .idle ∨ s.awaiting ≠ .none → exec .visit s = .next s ∧ exec .absentProbe s = .next s)
    ∧ (s.sweep = .idle → s.awaiting = .none →
      (polled a → (later a ∧ ∀ b : Addr, b < a → polled b → ¬ later b)
          ∨ ((∀ b : Addr, polled b → ¬ later b) ∧ (∀ b : Addr, ¬ missing b) ∧ ∀ b : Addr, b < a → ¬ polled b) →
        (∀ j : JobClosed, q.jobClosed = some j → exec .visit s = .next (visited (some .jobClosed) [.jobClosed a j]))
        ∧ (q.jobClosed = none →
          (∀ c : CardResult, q.cardResult = some c →
            exec .visit s = .next (visited (some .cardResult) [.cardResult a c]))
          ∧ (q.cardResult = none →
            (q.resume = true → exec .visit s = .next (visited (some .resume) [.resume a]))
            ∧ (q.resume = false →
              (∀ (p : PanelPayload) (l : List PanelPayload), q.panel = p :: l →
                exec .visit s = .next (visited (some .panel) [.panelText a p]))
              ∧ (q.panel = [] → exec .visit s = .next (visited none []))))))
      ∧ (missing a → (∀ b : Addr, polled b → ¬ later b) →
          (above a ∧ ∀ b : Addr, b < a → missing b → ¬ above b)
            ∨ ((∀ b : Addr, missing b → ¬ above b) ∧ ∀ b : Addr, b < a → ¬ missing b) →
        exec .absentProbe s = .next { s with
          awaiting := .probe a, lastProbed := some a, roundPos := none, floorTx := [.probe a 85] }))

/-- Replies to PROBE in a sweep (R148, R149) and in the rotation (R150). MODEL'S CHOICE, log entry 4: a reply that nothing awaits has no effect. DEDUCED: the capabilities kept are those of the second HELLO (log entry 12), and an address found PRESENT loses its last answer with its toggle (log entry 20). -/
def Obligations.SweepDecidesEachAddress : Prop :=
  ∀ (s : State) (a : Addr) (reply : ProbeReply) (first : FirstReply), s.resetLow = false →
    let judged (pattern : Byte) : FirstReply :=
      match reply with
      | .hello n echo token _ => if n = a.val + 1 ∧ echo = pattern then .hello token else .bad
      | .notHello => .bad
      | .garbled => .bad
    let moved (t : State) : State :=
      if a = 15 then { t with sweep := .idle, awaiting := .none, roundPos := none, lastProbed := none }
      else { t with awaiting := .sweepOne (a + 1), floorTx := [.probe (a + 1) 85] }
    let rest (t : State) : State :=
      if atRest (t.stations.get a).state then
        seat t a { t.stations.get a with state := restState t a, timer := none } else t
    let found (token : U16) (caps : Capabilities) : State :=
      let q := s.presence.get a
      let t := { s with presence := s.presence.set a { q with
        state := .present, token := some token, capabilities := caps, misses := 0, toggle := none
        lastAnswer := none, lossTimer := none } }
      rest (if (q.state = .present ∨ q.state = .lost) ∧ q.token = some token then t
        else { t with stations := t.stations.set a { t.stations.get a with engine := EngineStatus.reset } })
    let gone (p : Presence) : State :=
      rest { s with presence := s.presence.set a { PresenceRecord.reset with
        state := p, line := (s.presence.get a).line } }
    (s.awaiting = .sweepOne a →
      exec (.sweepReply reply) s =
          .next { s with awaiting := .sweepTwo a (judged 85), floorTx := [.probe a 170] }
      ∧ exec .missedReply s = .next { s with awaiting := .sweepTwo a .missed, floorTx := [.probe a 170] }
      ∧ exec .garbledReply s = .next { s with awaiting := .sweepTwo a .bad, floorTx := [.probe a 170] })
    ∧ (s.awaiting = .sweepTwo a first →
      exec (.sweepReply reply) s = .next (moved (
          match first, reply with
          | .hello t, .hello _ _ u caps =>
            if judged 170 = .bad then gone .conflict else if t = u then found u caps else gone .conflict
          | .missed, .hello _ _ _ _ => if judged 170 = .bad then gone .conflict else gone .absent
          | _, _ => gone .conflict))
      ∧ exec .missedReply s = .next (moved (if first = .bad then gone .conflict else gone .absent))
      ∧ exec .garbledReply s = .next (moved (gone .conflict)))
    ∧ (s.awaiting = .probe a → s.sweep = .idle →
      exec (.probeReply reply) s = .next (
          match reply with
          | .hello _ _ token caps =>
            { (if judged 85 = .bad then s else found token caps) with awaiting := .none }
          | _ => { s with awaiting := .none })
      ∧ exec .missedReply s = .next { s with awaiting := .none }
      ∧ exec .garbledReply s = .next { s with awaiting := .none })
    ∧ (awaitsSweep s.awaiting = false → exec (.sweepReply reply) s = .next s)
    ∧ (awaitsProbe s.awaiting = false → exec (.probeReply reply) s = .next s)

/-- Valid replies of a PRESENT or LOST address that carry no new event (R151 to R155), and how a LOST address comes back for those that do (R60, R151). DEDUCED, log entry 18: a close from DETACHED with JAMMED remembered places no STATION_STATUS notice. -/
def Obligations.PollRepliesWithoutAnEvent : Prop :=
  ∀ (s : State) (a : Addr) (sent : Option Message) (token : U16) (caps : Capabilities) (toggle : Bool) (x : Answer)
    (j : Job) (c : Instr) (number : Nat), Visited s a sent →
    let p := s.presence.get a
    let h := heard s a sent
    let b := cameBack s a sent
    let idle (t : State) : State := { t with awaiting := .none }
    let fresh (t : State) : State :=
      { t with awaiting := .none
               stations := t.stations.set a { t.stations.get a with engine := EngineStatus.reset } }
    let t := { h with presence := h.presence.set a { h.presence.get a with
      token := some token, capabilities := caps, toggle := none, lastAnswer := none } }
    h = { s with presence := s.presence.set a { p with
      state := .present, misses := 0, lossTimer := none
      jobClosed := if sent = some .jobClosed then none else p.jobClosed
      cardResult := if sent = some .cardResult then none else p.cardResult
      resume := if sent = some .resume then false else p.resume
      panel := if sent = some .panel then p.panel.tail else p.panel } }
    ∧ (p.state = .present → b = h)
    ∧ exec (.nothing (a.val + 1)) s = .next (idle b)
    ∧ (p.token = some token → exec (.hello (a.val + 1) token caps) s =
        .next (idle { b with presence := b.presence.set a { b.presence.get a with toggle := none, lastAnswer := none } }))
    ∧ (p.token ≠ some token →
      ((s.stations.get a).state = .offline ∨ (s.stations.get a).state = .disabled
          ∨ (s.stations.get a).state = .idle →
        exec (.hello (a.val + 1) token caps) s =
          .next (fresh (seat t a { t.stations.get a with state := restState t a, timer := none })))
      ∧ ((s.stations.get a).state = .authorizing → exec (.hello (a.val + 1) token caps) s =
          .next (fresh (slotted (unauthorized t a) a (.declined .stationReset))))
      ∧ (hasOpenJob (s.stations.get a).state = true → jobAt s a = some j → exec (.hello (a.val + 1) token caps) s =
          .next (fresh (closedAway t a .stationReset j))))
    ∧ (EventFrom (a.val + 1) toggle c →
      (p.toggle = some toggle → p.lastAnswer = some x →
        exec c s = .next { b with awaiting := .none, floorTx := [.answer a x] })
      ∧ (p.state = .lost → Polling { b with awaiting := .poll a none } a none
        ∧ exec c s = exec c { b with awaiting := .poll a none }))
    ∧ (number = 0 ∨ 9999999999999999999 < number →
      exec (.card (a.val + 1) toggle number) s = exec .garbledReply s)

/-- Misses, loss, return and the loss timer (R59, R60, R151, R152). MODEL'S CHOICE, log entry 4: the expiry of a timer that does not run has no effect. MODEL'S CHOICE, log entry 33: the loss timer of an address that a running sweep has not reached expires all the same (R152 against R148). -/
def Obligations.LossAndReturn : Prop :=
  ∀ (s : State) (a : Addr) (sent : Option Message) (other : Nat), s.resetLow = false →
    let q := s.presence.get a
    let r := s.stations.get a
    let lost (p : Nat) : State := { s with presence := s.presence.set a { q with state := .lost, misses := p } }
    let graced (t : State) : State :=
      { t with awaiting := .none
               presence := t.presence.set a { t.presence.get a with lossTimer := some s.timers.reconnectGrace } }
    let both (t : State) : Prop := exec .missedReply s = .next t ∧ exec .garbledReply s = .next t
      ∧ (other ≠ a.val + 1 → exec (.nothing other) s = .next t)
    (Polling s a sent →
      (q.misses ≤ 1 → both { s with
        awaiting := .none, presence := s.presence.set a { q with misses := q.misses + 1 } })
      ∧ (2 ≤ q.misses →
        (r.state = .active ∨ r.state = .held ∨ r.state = .jammed ∨ r.state = .closing →
          both { seat (lost 3) a { r with
              state := .detached, remembered := some r.state
              timer := some ⟨.reconnectGrace, s.timers.reconnectGrace⟩ } with awaiting := .none })
        ∧ (r.state = .authorizing → both (graced (slotted (unauthorized (lost 3) a) a (.declined .stationLost))))
        ∧ (r.state = .idle ∨ r.state = .disabled ∨ r.state = .offline →
          both (graced (seat (lost 3) a { r with state := .offline, timer := none })))))
    ∧ (s.awaiting = .poll a sent → s.sweep = .idle → q.state = .lost → q.misses = 3 →
      both { s with awaiting := .none })
    ∧ ((q.state = .lost ∧ q.lossTimer ≠ none) →
      exec (.lossTimerExpiry (a.val + 1)) s = .next (
        let t := { s with presence := s.presence.set a { PresenceRecord.reset with
          state := .absent, line := q.line } }
        if atRest r.state then seat t a { r with state := .offline, timer := none } else t))
    ∧ (¬ (q.state = .lost ∧ q.lossTimer ≠ none) → exec (.lossTimerExpiry (a.val + 1)) s = .next s)
    ∧ (s.awaiting = .poll a sent → s.sweep = .idle → q.state = .lost →
      let h := heard s a sent
      let back (state : StationState) (k : TimerKind) : State :=
        seat h a { r with state := state, remembered := none, timer := some ⟨k, settingOf s.timers k⟩ }
      let returned (t : State) : Prop := exec (.nothing (a.val + 1)) s = .next { t with awaiting := .none }
      (atRest r.state = true → returned (seat h a { r with state := restState h a, timer := none }))
      ∧ (r.state = .detached →
        (r.remembered = some .active →
          returned (seat h a (idled s.timers { r with state := .active, remembered := none, timer := none })))
        ∧ (r.remembered = some .held → returned (retryStation (back .held .holdWait) a))
        ∧ (r.remembered = some .jammed → returned (back .jammed .jam))
        ∧ (r.remembered = some .closing → returned (back .closing .drain))))

/-- The laws hold right after reset. -/
def Obligations.ResetKeepsEveryLaw : Prop :=
  DeviceLaws State.reset

/-- The law of the vend enable lines (R140) is kept by every step. -/
def Obligations.StepKeepsTheVendLaw : Prop :=
  ∀ s t : State, VendLaw s → step s = .next t → VendLaw t

/-- The first half of the law of R73 is kept by every step. -/
def Obligations.StepKeepsTheHoldLaw : Prop :=
  ∀ s t : State, HoldLaw s → step s = .next t → HoldLaw t

/-- The laws of the notice queue (R159), the card map (R12) and the sequence numbers (R118) are each kept by every step; and what placing a notice does to the queue (R159). -/
def Obligations.StepKeepsTablesInOrder : Prop :=
  ∀ s t : State, step s = .next t →
    (NoticeLaw s → NoticeLaw t) ∧ (CardLaw s → CardLaw t) ∧ (SequenceLaw s → SequenceLaw t)
    ∧ (∀ (n : NoticeEntry) (q : List NoticeEntry), (∀ e ∈ q, sameSubject e n = false) → placeIn n q = q ++ [n])
    ∧ (∀ (n e : NoticeEntry) (q r : List NoticeEntry), (∀ d ∈ q, sameSubject d n = false) → sameSubject e n = true →
      placeIn n (q ++ e :: r) = q ++ n :: r)
    ∧ ∀ x y : NoticeEntry, sameSubject x y = true ↔
      (∃ r u : AuthRequest, x = .authRequest r ∧ y = .authRequest u ∧ r.tag.channel = u.tag.channel)
      ∨ (∃ a : Addr, x = .stationStatus a ∧ y = .stationStatus a) ∨ (x = .journalLevel ∧ y = .journalLevel)

/-- The law of stations, channels and the wait queue (R28, R30, R43) is kept by every step. -/
def Obligations.StepKeepsTheStationLaw : Prop :=
  ∀ s t : State, StationLaw s → step s = .next t → StationLaw t

/-- The law of the journal's reservations (R119) is kept by every step. -/
def Obligations.StepKeepsTheJournalLaw : Prop :=
  ∀ s t : State, JournalLaw s → step s = .next t → JournalLaw t

/-- The law of accounts and plans (R3, R19) is kept by every step. -/
def Obligations.StepKeepsTheAccountLaw : Prop :=
  ∀ s t : State, AccountLaw s → step s = .next t → AccountLaw t

/-- The sheet path law (R46, R98) and the ranges of the tables are kept by every step. -/
def Obligations.StepKeepsSheetsAndRanges : Prop :=
  ∀ s t : State, RangeLaw s → step s = .next t → RangeLaw t

/-- The law of presence and rest states (R44, R147) is kept by every step. -/
def Obligations.StepKeepsTheFloorLaw : Prop :=
  ∀ s t : State, FloorLaw s → step s = .next t → FloorLaw t

/-- Writing and reading of office requests and station frames agree (R166 to R171). -/
def Obligations.FramesRoundTrip : Prop :=
  ∀ (i : Instr) (bs : List Byte), i.wf = true →
    (encodeOffice i = some bs → receiveOffice bs = i)
    ∧ (encodePollReply i = some bs → (∀ addr toggle n, i = .card addr toggle n → cardInRange n = true) →
      receiveFloor .poll bs = i)

/-- The CRC of R146 tells every single damaged byte (R157, R167). -/
def Obligations.DamagedFramesAreNotTaken : Prop :=
  ∀ (bs : List Byte) (k : Fin bs.length) (b : Byte) (fields : List Byte),
    openFrame bs = some fields → b ≠ bs[k] →
    receiveOffice (bs.set k b) = .discardedFrame ∧ receiveFloor .poll (bs.set k b) = .garbledReply
end

