-- ==== Sys2Proof/Laws/Table.lean ====
section
/-! SUPPORT. Reading a table after a write, and tables that agree everywhere. -/

namespace Sys2Proof

@[ext] theorem Table.ext_list {α : Type} {n : Nat} {s t : Table α n} (h : s.list = t.list) : s = t := by
  cases s; cases t; simpa using h

@[simp] theorem Table.get_set_self {α : Type} {n : Nat} (t : Table α n) (i : Fin n) (x : α) :
    (t.set i x).get i = x := by
  simp [Table.get, Table.set]

theorem Table.get_set_ne {α : Type} {n : Nat} (t : Table α n) {i j : Fin n} (x : α) (h : i ≠ j) :
    (t.set i x).get j = t.get j := by
  have : i.val ≠ j.val := fun e => h (Fin.ext e)
  simp [Table.get, Table.set, List.getElem_set_ne this]

theorem Table.get_set {α : Type} {n : Nat} (t : Table α n) (i j : Fin n) (x : α) :
    (t.set i x).get j = if j = i then x else t.get j := by
  by_cases h : j = i
  · subst h; simp
  · simp [h, Table.get_set_ne t x (Ne.symm h)]

@[simp] theorem Table.set_set {α : Type} {n : Nat} (t : Table α n) (i : Fin n) (x y : α) :
    (t.set i x).set i y = t.set i y := by
  apply Table.ext_list; simp [Table.set]

@[simp] theorem Table.set_get {α : Type} {n : Nat} (t : Table α n) (i : Fin n) : t.set i (t.get i) = t := by
  apply Table.ext_list; simp [Table.set, Table.get]

theorem Table.set_comm {α : Type} {n : Nat} (t : Table α n) {i j : Fin n} (x y : α) (h : i ≠ j) :
    (t.set i x).set j y = (t.set j y).set i x := by
  have : i.val ≠ j.val := fun e => h (Fin.ext e)
  apply Table.ext_list; simp [Table.set, List.set_comm _ _ this]

@[simp] theorem Table.get_fill {α : Type} {n : Nat} (x : α) (i : Fin n) : (Table.fill n x).get i = x := by
  simp [Table.get, Table.fill]

theorem Table.eq_of_get {α : Type} {n : Nat} {s t : Table α n} (h : ∀ i, s.get i = t.get i) : s = t := by
  apply Table.ext_list
  apply List.ext_getElem
  · rw [s.length_eq, t.length_eq]
  · intro k h1 _
    have := h ⟨k, by rw [← s.length_eq]; exact h1⟩
    simpa [Table.get] using this

end Sys2Proof
end

