-- ==== Sys2Proof/Laws/State.lean ====
section
/-! SUPPORT. One lemma per field for each update of one record of the state. -/

namespace Sys2Proof.Machine

@[simp] theorem setAccount_accounts (s : State) (n : AccountNo) (x : Account) : (setAccount s n x).accounts = s.accounts.set n x := rfl
@[simp] theorem setAccount_cards (s : State) (n : AccountNo) (x : Account) :
    (setAccount s n x).cards = s.cards := rfl
@[simp] theorem setAccount_channels (s : State) (n : AccountNo) (x : Account) :
    (setAccount s n x).channels = s.channels := rfl
@[simp] theorem setAccount_waitQueue (s : State) (n : AccountNo) (x : Account) :
    (setAccount s n x).waitQueue = s.waitQueue := rfl
@[simp] theorem setAccount_plans (s : State) (n : AccountNo) (x : Account) :
    (setAccount s n x).plans = s.plans := rfl
@[simp] theorem setAccount_journal (s : State) (n : AccountNo) (x : Account) :
    (setAccount s n x).journal = s.journal := rfl
@[simp] theorem setAccount_reservations (s : State) (n : AccountNo) (x : Account) :
    (setAccount s n x).reservations = s.reservations := rfl
@[simp] theorem setAccount_nextSeq (s : State) (n : AccountNo) (x : Account) :
    (setAccount s n x).nextSeq = s.nextSeq := rfl
@[simp] theorem setAccount_meters (s : State) (n : AccountNo) (x : Account) :
    (setAccount s n x).meters = s.meters := rfl
@[simp] theorem setAccount_mode (s : State) (n : AccountNo) (x : Account) :
    (setAccount s n x).mode = s.mode := rfl
@[simp] theorem setAccount_freeVend (s : State) (n : AccountNo) (x : Account) :
    (setAccount s n x).freeVend = s.freeVend := rfl
@[simp] theorem setAccount_adminEnable (s : State) (n : AccountNo) (x : Account) :
    (setAccount s n x).adminEnable = s.adminEnable := rfl
@[simp] theorem setAccount_stations (s : State) (n : AccountNo) (x : Account) :
    (setAccount s n x).stations = s.stations := rfl
@[simp] theorem setAccount_timers (s : State) (n : AccountNo) (x : Account) :
    (setAccount s n x).timers = s.timers := rfl
@[simp] theorem setAccount_presence (s : State) (n : AccountNo) (x : Account) :
    (setAccount s n x).presence = s.presence := rfl
@[simp] theorem setAccount_sweep (s : State) (n : AccountNo) (x : Account) :
    (setAccount s n x).sweep = s.sweep := rfl
@[simp] theorem setAccount_awaiting (s : State) (n : AccountNo) (x : Account) :
    (setAccount s n x).awaiting = s.awaiting := rfl
@[simp] theorem setAccount_roundPos (s : State) (n : AccountNo) (x : Account) :
    (setAccount s n x).roundPos = s.roundPos := rfl
@[simp] theorem setAccount_lastProbed (s : State) (n : AccountNo) (x : Account) :
    (setAccount s n x).lastProbed = s.lastProbed := rfl
@[simp] theorem setAccount_responses (s : State) (n : AccountNo) (x : Account) :
    (setAccount s n x).responses = s.responses := rfl
@[simp] theorem setAccount_notices (s : State) (n : AccountNo) (x : Account) :
    (setAccount s n x).notices = s.notices := rfl
@[simp] theorem setAccount_paused (s : State) (n : AccountNo) (x : Account) :
    (setAccount s n x).paused = s.paused := rfl
@[simp] theorem setAccount_window (s : State) (n : AccountNo) (x : Account) :
    (setAccount s n x).window = s.window := rfl
@[simp] theorem setAccount_rate (s : State) (n : AccountNo) (x : Account) :
    (setAccount s n x).rate = s.rate := rfl
@[simp] theorem setAccount_straps (s : State) (n : AccountNo) (x : Account) :
    (setAccount s n x).straps = s.straps := rfl
@[simp] theorem setAccount_resetLow (s : State) (n : AccountNo) (x : Account) :
    (setAccount s n x).resetLow = s.resetLow := rfl
@[simp] theorem setAccount_officeTx (s : State) (n : AccountNo) (x : Account) :
    (setAccount s n x).officeTx = s.officeTx := rfl
@[simp] theorem setAccount_floorTx (s : State) (n : AccountNo) (x : Account) :
    (setAccount s n x).floorTx = s.floorTx := rfl
@[simp] theorem setAccount_freeTick (s : State) (n : AccountNo) (x : Account) :
    (setAccount s n x).freeTick = s.freeTick := rfl
@[simp] theorem setAccount_pending (s : State) (n : AccountNo) (x : Account) :
    (setAccount s n x).pending = s.pending := rfl

@[simp] theorem setBucket_accounts (s : State) (b : BucketNo) (x : Bucket) :
    (setBucket s b x).accounts = s.accounts := rfl
@[simp] theorem setBucket_cards (s : State) (b : BucketNo) (x : Bucket) : (setBucket s b x).cards = s.cards.set b x := rfl
@[simp] theorem setBucket_channels (s : State) (b : BucketNo) (x : Bucket) :
    (setBucket s b x).channels = s.channels := rfl
@[simp] theorem setBucket_waitQueue (s : State) (b : BucketNo) (x : Bucket) :
    (setBucket s b x).waitQueue = s.waitQueue := rfl
@[simp] theorem setBucket_plans (s : State) (b : BucketNo) (x : Bucket) :
    (setBucket s b x).plans = s.plans := rfl
@[simp] theorem setBucket_journal (s : State) (b : BucketNo) (x : Bucket) :
    (setBucket s b x).journal = s.journal := rfl
@[simp] theorem setBucket_reservations (s : State) (b : BucketNo) (x : Bucket) :
    (setBucket s b x).reservations = s.reservations := rfl
@[simp] theorem setBucket_nextSeq (s : State) (b : BucketNo) (x : Bucket) :
    (setBucket s b x).nextSeq = s.nextSeq := rfl
@[simp] theorem setBucket_meters (s : State) (b : BucketNo) (x : Bucket) :
    (setBucket s b x).meters = s.meters := rfl
@[simp] theorem setBucket_mode (s : State) (b : BucketNo) (x : Bucket) :
    (setBucket s b x).mode = s.mode := rfl
@[simp] theorem setBucket_freeVend (s : State) (b : BucketNo) (x : Bucket) :
    (setBucket s b x).freeVend = s.freeVend := rfl
@[simp] theorem setBucket_adminEnable (s : State) (b : BucketNo) (x : Bucket) :
    (setBucket s b x).adminEnable = s.adminEnable := rfl
@[simp] theorem setBucket_stations (s : State) (b : BucketNo) (x : Bucket) :
    (setBucket s b x).stations = s.stations := rfl
@[simp] theorem setBucket_timers (s : State) (b : BucketNo) (x : Bucket) :
    (setBucket s b x).timers = s.timers := rfl
@[simp] theorem setBucket_presence (s : State) (b : BucketNo) (x : Bucket) :
    (setBucket s b x).presence = s.presence := rfl
@[simp] theorem setBucket_sweep (s : State) (b : BucketNo) (x : Bucket) :
    (setBucket s b x).sweep = s.sweep := rfl
@[simp] theorem setBucket_awaiting (s : State) (b : BucketNo) (x : Bucket) :
    (setBucket s b x).awaiting = s.awaiting := rfl
@[simp] theorem setBucket_roundPos (s : State) (b : BucketNo) (x : Bucket) :
    (setBucket s b x).roundPos = s.roundPos := rfl
@[simp] theorem setBucket_lastProbed (s : State) (b : BucketNo) (x : Bucket) :
    (setBucket s b x).lastProbed = s.lastProbed := rfl
@[simp] theorem setBucket_responses (s : State) (b : BucketNo) (x : Bucket) :
    (setBucket s b x).responses = s.responses := rfl
@[simp] theorem setBucket_notices (s : State) (b : BucketNo) (x : Bucket) :
    (setBucket s b x).notices = s.notices := rfl
@[simp] theorem setBucket_paused (s : State) (b : BucketNo) (x : Bucket) :
    (setBucket s b x).paused = s.paused := rfl
@[simp] theorem setBucket_window (s : State) (b : BucketNo) (x : Bucket) :
    (setBucket s b x).window = s.window := rfl
@[simp] theorem setBucket_rate (s : State) (b : BucketNo) (x : Bucket) :
    (setBucket s b x).rate = s.rate := rfl
@[simp] theorem setBucket_straps (s : State) (b : BucketNo) (x : Bucket) :
    (setBucket s b x).straps = s.straps := rfl
@[simp] theorem setBucket_resetLow (s : State) (b : BucketNo) (x : Bucket) :
    (setBucket s b x).resetLow = s.resetLow := rfl
@[simp] theorem setBucket_officeTx (s : State) (b : BucketNo) (x : Bucket) :
    (setBucket s b x).officeTx = s.officeTx := rfl
@[simp] theorem setBucket_floorTx (s : State) (b : BucketNo) (x : Bucket) :
    (setBucket s b x).floorTx = s.floorTx := rfl
@[simp] theorem setBucket_freeTick (s : State) (b : BucketNo) (x : Bucket) :
    (setBucket s b x).freeTick = s.freeTick := rfl
@[simp] theorem setBucket_pending (s : State) (b : BucketNo) (x : Bucket) :
    (setBucket s b x).pending = s.pending := rfl

@[simp] theorem setChannel_accounts (s : State) (c : ChannelNo) (x : Channel) :
    (setChannel s c x).accounts = s.accounts := rfl
@[simp] theorem setChannel_cards (s : State) (c : ChannelNo) (x : Channel) :
    (setChannel s c x).cards = s.cards := rfl
@[simp] theorem setChannel_channels (s : State) (c : ChannelNo) (x : Channel) : (setChannel s c x).channels = s.channels.set c x := rfl
@[simp] theorem setChannel_waitQueue (s : State) (c : ChannelNo) (x : Channel) :
    (setChannel s c x).waitQueue = s.waitQueue := rfl
@[simp] theorem setChannel_plans (s : State) (c : ChannelNo) (x : Channel) :
    (setChannel s c x).plans = s.plans := rfl
@[simp] theorem setChannel_journal (s : State) (c : ChannelNo) (x : Channel) :
    (setChannel s c x).journal = s.journal := rfl
@[simp] theorem setChannel_reservations (s : State) (c : ChannelNo) (x : Channel) :
    (setChannel s c x).reservations = s.reservations := rfl
@[simp] theorem setChannel_nextSeq (s : State) (c : ChannelNo) (x : Channel) :
    (setChannel s c x).nextSeq = s.nextSeq := rfl
@[simp] theorem setChannel_meters (s : State) (c : ChannelNo) (x : Channel) :
    (setChannel s c x).meters = s.meters := rfl
@[simp] theorem setChannel_mode (s : State) (c : ChannelNo) (x : Channel) :
    (setChannel s c x).mode = s.mode := rfl
@[simp] theorem setChannel_freeVend (s : State) (c : ChannelNo) (x : Channel) :
    (setChannel s c x).freeVend = s.freeVend := rfl
@[simp] theorem setChannel_adminEnable (s : State) (c : ChannelNo) (x : Channel) :
    (setChannel s c x).adminEnable = s.adminEnable := rfl
@[simp] theorem setChannel_stations (s : State) (c : ChannelNo) (x : Channel) :
    (setChannel s c x).stations = s.stations := rfl
@[simp] theorem setChannel_timers (s : State) (c : ChannelNo) (x : Channel) :
    (setChannel s c x).timers = s.timers := rfl
@[simp] theorem setChannel_presence (s : State) (c : ChannelNo) (x : Channel) :
    (setChannel s c x).presence = s.presence := rfl
@[simp] theorem setChannel_sweep (s : State) (c : ChannelNo) (x : Channel) :
    (setChannel s c x).sweep = s.sweep := rfl
@[simp] theorem setChannel_awaiting (s : State) (c : ChannelNo) (x : Channel) :
    (setChannel s c x).awaiting = s.awaiting := rfl
@[simp] theorem setChannel_roundPos (s : State) (c : ChannelNo) (x : Channel) :
    (setChannel s c x).roundPos = s.roundPos := rfl
@[simp] theorem setChannel_lastProbed (s : State) (c : ChannelNo) (x : Channel) :
    (setChannel s c x).lastProbed = s.lastProbed := rfl
@[simp] theorem setChannel_responses (s : State) (c : ChannelNo) (x : Channel) :
    (setChannel s c x).responses = s.responses := rfl
@[simp] theorem setChannel_notices (s : State) (c : ChannelNo) (x : Channel) :
    (setChannel s c x).notices = s.notices := rfl
@[simp] theorem setChannel_paused (s : State) (c : ChannelNo) (x : Channel) :
    (setChannel s c x).paused = s.paused := rfl
@[simp] theorem setChannel_window (s : State) (c : ChannelNo) (x : Channel) :
    (setChannel s c x).window = s.window := rfl
@[simp] theorem setChannel_rate (s : State) (c : ChannelNo) (x : Channel) :
    (setChannel s c x).rate = s.rate := rfl
@[simp] theorem setChannel_straps (s : State) (c : ChannelNo) (x : Channel) :
    (setChannel s c x).straps = s.straps := rfl
@[simp] theorem setChannel_resetLow (s : State) (c : ChannelNo) (x : Channel) :
    (setChannel s c x).resetLow = s.resetLow := rfl
@[simp] theorem setChannel_officeTx (s : State) (c : ChannelNo) (x : Channel) :
    (setChannel s c x).officeTx = s.officeTx := rfl
@[simp] theorem setChannel_floorTx (s : State) (c : ChannelNo) (x : Channel) :
    (setChannel s c x).floorTx = s.floorTx := rfl
@[simp] theorem setChannel_freeTick (s : State) (c : ChannelNo) (x : Channel) :
    (setChannel s c x).freeTick = s.freeTick := rfl
@[simp] theorem setChannel_pending (s : State) (c : ChannelNo) (x : Channel) :
    (setChannel s c x).pending = s.pending := rfl

@[simp] theorem setPlan_accounts (s : State) (p : PlanNo) (x : Plan) :
    (setPlan s p x).accounts = s.accounts := rfl
@[simp] theorem setPlan_cards (s : State) (p : PlanNo) (x : Plan) :
    (setPlan s p x).cards = s.cards := rfl
@[simp] theorem setPlan_channels (s : State) (p : PlanNo) (x : Plan) :
    (setPlan s p x).channels = s.channels := rfl
@[simp] theorem setPlan_waitQueue (s : State) (p : PlanNo) (x : Plan) :
    (setPlan s p x).waitQueue = s.waitQueue := rfl
@[simp] theorem setPlan_plans (s : State) (p : PlanNo) (x : Plan) : (setPlan s p x).plans = s.plans.set p x := rfl
@[simp] theorem setPlan_journal (s : State) (p : PlanNo) (x : Plan) :
    (setPlan s p x).journal = s.journal := rfl
@[simp] theorem setPlan_reservations (s : State) (p : PlanNo) (x : Plan) :
    (setPlan s p x).reservations = s.reservations := rfl
@[simp] theorem setPlan_nextSeq (s : State) (p : PlanNo) (x : Plan) :
    (setPlan s p x).nextSeq = s.nextSeq := rfl
@[simp] theorem setPlan_meters (s : State) (p : PlanNo) (x : Plan) :
    (setPlan s p x).meters = s.meters := rfl
@[simp] theorem setPlan_mode (s : State) (p : PlanNo) (x : Plan) :
    (setPlan s p x).mode = s.mode := rfl
@[simp] theorem setPlan_freeVend (s : State) (p : PlanNo) (x : Plan) :
    (setPlan s p x).freeVend = s.freeVend := rfl
@[simp] theorem setPlan_adminEnable (s : State) (p : PlanNo) (x : Plan) :
    (setPlan s p x).adminEnable = s.adminEnable := rfl
@[simp] theorem setPlan_stations (s : State) (p : PlanNo) (x : Plan) :
    (setPlan s p x).stations = s.stations := rfl
@[simp] theorem setPlan_timers (s : State) (p : PlanNo) (x : Plan) :
    (setPlan s p x).timers = s.timers := rfl
@[simp] theorem setPlan_presence (s : State) (p : PlanNo) (x : Plan) :
    (setPlan s p x).presence = s.presence := rfl
@[simp] theorem setPlan_sweep (s : State) (p : PlanNo) (x : Plan) :
    (setPlan s p x).sweep = s.sweep := rfl
@[simp] theorem setPlan_awaiting (s : State) (p : PlanNo) (x : Plan) :
    (setPlan s p x).awaiting = s.awaiting := rfl
@[simp] theorem setPlan_roundPos (s : State) (p : PlanNo) (x : Plan) :
    (setPlan s p x).roundPos = s.roundPos := rfl
@[simp] theorem setPlan_lastProbed (s : State) (p : PlanNo) (x : Plan) :
    (setPlan s p x).lastProbed = s.lastProbed := rfl
@[simp] theorem setPlan_responses (s : State) (p : PlanNo) (x : Plan) :
    (setPlan s p x).responses = s.responses := rfl
@[simp] theorem setPlan_notices (s : State) (p : PlanNo) (x : Plan) :
    (setPlan s p x).notices = s.notices := rfl
@[simp] theorem setPlan_paused (s : State) (p : PlanNo) (x : Plan) :
    (setPlan s p x).paused = s.paused := rfl
@[simp] theorem setPlan_window (s : State) (p : PlanNo) (x : Plan) :
    (setPlan s p x).window = s.window := rfl
@[simp] theorem setPlan_rate (s : State) (p : PlanNo) (x : Plan) :
    (setPlan s p x).rate = s.rate := rfl
@[simp] theorem setPlan_straps (s : State) (p : PlanNo) (x : Plan) :
    (setPlan s p x).straps = s.straps := rfl
@[simp] theorem setPlan_resetLow (s : State) (p : PlanNo) (x : Plan) :
    (setPlan s p x).resetLow = s.resetLow := rfl
@[simp] theorem setPlan_officeTx (s : State) (p : PlanNo) (x : Plan) :
    (setPlan s p x).officeTx = s.officeTx := rfl
@[simp] theorem setPlan_floorTx (s : State) (p : PlanNo) (x : Plan) :
    (setPlan s p x).floorTx = s.floorTx := rfl
@[simp] theorem setPlan_freeTick (s : State) (p : PlanNo) (x : Plan) :
    (setPlan s p x).freeTick = s.freeTick := rfl
@[simp] theorem setPlan_pending (s : State) (p : PlanNo) (x : Plan) :
    (setPlan s p x).pending = s.pending := rfl

@[simp] theorem setMeters_accounts (s : State) (a : Addr) (x : Meters Nat) :
    (setMeters s a x).accounts = s.accounts := rfl
@[simp] theorem setMeters_cards (s : State) (a : Addr) (x : Meters Nat) :
    (setMeters s a x).cards = s.cards := rfl
@[simp] theorem setMeters_channels (s : State) (a : Addr) (x : Meters Nat) :
    (setMeters s a x).channels = s.channels := rfl
@[simp] theorem setMeters_waitQueue (s : State) (a : Addr) (x : Meters Nat) :
    (setMeters s a x).waitQueue = s.waitQueue := rfl
@[simp] theorem setMeters_plans (s : State) (a : Addr) (x : Meters Nat) :
    (setMeters s a x).plans = s.plans := rfl
@[simp] theorem setMeters_journal (s : State) (a : Addr) (x : Meters Nat) :
    (setMeters s a x).journal = s.journal := rfl
@[simp] theorem setMeters_reservations (s : State) (a : Addr) (x : Meters Nat) :
    (setMeters s a x).reservations = s.reservations := rfl
@[simp] theorem setMeters_nextSeq (s : State) (a : Addr) (x : Meters Nat) :
    (setMeters s a x).nextSeq = s.nextSeq := rfl
@[simp] theorem setMeters_meters (s : State) (a : Addr) (x : Meters Nat) : (setMeters s a x).meters = s.meters.set a x := rfl
@[simp] theorem setMeters_mode (s : State) (a : Addr) (x : Meters Nat) :
    (setMeters s a x).mode = s.mode := rfl
@[simp] theorem setMeters_freeVend (s : State) (a : Addr) (x : Meters Nat) :
    (setMeters s a x).freeVend = s.freeVend := rfl
@[simp] theorem setMeters_adminEnable (s : State) (a : Addr) (x : Meters Nat) :
    (setMeters s a x).adminEnable = s.adminEnable := rfl
@[simp] theorem setMeters_stations (s : State) (a : Addr) (x : Meters Nat) :
    (setMeters s a x).stations = s.stations := rfl
@[simp] theorem setMeters_timers (s : State) (a : Addr) (x : Meters Nat) :
    (setMeters s a x).timers = s.timers := rfl
@[simp] theorem setMeters_presence (s : State) (a : Addr) (x : Meters Nat) :
    (setMeters s a x).presence = s.presence := rfl
@[simp] theorem setMeters_sweep (s : State) (a : Addr) (x : Meters Nat) :
    (setMeters s a x).sweep = s.sweep := rfl
@[simp] theorem setMeters_awaiting (s : State) (a : Addr) (x : Meters Nat) :
    (setMeters s a x).awaiting = s.awaiting := rfl
@[simp] theorem setMeters_roundPos (s : State) (a : Addr) (x : Meters Nat) :
    (setMeters s a x).roundPos = s.roundPos := rfl
@[simp] theorem setMeters_lastProbed (s : State) (a : Addr) (x : Meters Nat) :
    (setMeters s a x).lastProbed = s.lastProbed := rfl
@[simp] theorem setMeters_responses (s : State) (a : Addr) (x : Meters Nat) :
    (setMeters s a x).responses = s.responses := rfl
@[simp] theorem setMeters_notices (s : State) (a : Addr) (x : Meters Nat) :
    (setMeters s a x).notices = s.notices := rfl
@[simp] theorem setMeters_paused (s : State) (a : Addr) (x : Meters Nat) :
    (setMeters s a x).paused = s.paused := rfl
@[simp] theorem setMeters_window (s : State) (a : Addr) (x : Meters Nat) :
    (setMeters s a x).window = s.window := rfl
@[simp] theorem setMeters_rate (s : State) (a : Addr) (x : Meters Nat) :
    (setMeters s a x).rate = s.rate := rfl
@[simp] theorem setMeters_straps (s : State) (a : Addr) (x : Meters Nat) :
    (setMeters s a x).straps = s.straps := rfl
@[simp] theorem setMeters_resetLow (s : State) (a : Addr) (x : Meters Nat) :
    (setMeters s a x).resetLow = s.resetLow := rfl
@[simp] theorem setMeters_officeTx (s : State) (a : Addr) (x : Meters Nat) :
    (setMeters s a x).officeTx = s.officeTx := rfl
@[simp] theorem setMeters_floorTx (s : State) (a : Addr) (x : Meters Nat) :
    (setMeters s a x).floorTx = s.floorTx := rfl
@[simp] theorem setMeters_freeTick (s : State) (a : Addr) (x : Meters Nat) :
    (setMeters s a x).freeTick = s.freeTick := rfl
@[simp] theorem setMeters_pending (s : State) (a : Addr) (x : Meters Nat) :
    (setMeters s a x).pending = s.pending := rfl

@[simp] theorem setStation_accounts (s : State) (a : Addr) (x : Station) :
    (setStation s a x).accounts = s.accounts := rfl
@[simp] theorem setStation_cards (s : State) (a : Addr) (x : Station) :
    (setStation s a x).cards = s.cards := rfl
@[simp] theorem setStation_channels (s : State) (a : Addr) (x : Station) :
    (setStation s a x).channels = s.channels := rfl
@[simp] theorem setStation_waitQueue (s : State) (a : Addr) (x : Station) :
    (setStation s a x).waitQueue = s.waitQueue := rfl
@[simp] theorem setStation_plans (s : State) (a : Addr) (x : Station) :
    (setStation s a x).plans = s.plans := rfl
@[simp] theorem setStation_journal (s : State) (a : Addr) (x : Station) :
    (setStation s a x).journal = s.journal := rfl
@[simp] theorem setStation_reservations (s : State) (a : Addr) (x : Station) :
    (setStation s a x).reservations = s.reservations := rfl
@[simp] theorem setStation_nextSeq (s : State) (a : Addr) (x : Station) :
    (setStation s a x).nextSeq = s.nextSeq := rfl
@[simp] theorem setStation_meters (s : State) (a : Addr) (x : Station) :
    (setStation s a x).meters = s.meters := rfl
@[simp] theorem setStation_mode (s : State) (a : Addr) (x : Station) :
    (setStation s a x).mode = s.mode := rfl
@[simp] theorem setStation_freeVend (s : State) (a : Addr) (x : Station) :
    (setStation s a x).freeVend = s.freeVend := rfl
@[simp] theorem setStation_adminEnable (s : State) (a : Addr) (x : Station) :
    (setStation s a x).adminEnable = s.adminEnable := rfl
@[simp] theorem setStation_stations (s : State) (a : Addr) (x : Station) : (setStation s a x).stations = s.stations.set a x := rfl
@[simp] theorem setStation_timers (s : State) (a : Addr) (x : Station) :
    (setStation s a x).timers = s.timers := rfl
@[simp] theorem setStation_presence (s : State) (a : Addr) (x : Station) :
    (setStation s a x).presence = s.presence := rfl
@[simp] theorem setStation_sweep (s : State) (a : Addr) (x : Station) :
    (setStation s a x).sweep = s.sweep := rfl
@[simp] theorem setStation_awaiting (s : State) (a : Addr) (x : Station) :
    (setStation s a x).awaiting = s.awaiting := rfl
@[simp] theorem setStation_roundPos (s : State) (a : Addr) (x : Station) :
    (setStation s a x).roundPos = s.roundPos := rfl
@[simp] theorem setStation_lastProbed (s : State) (a : Addr) (x : Station) :
    (setStation s a x).lastProbed = s.lastProbed := rfl
@[simp] theorem setStation_responses (s : State) (a : Addr) (x : Station) :
    (setStation s a x).responses = s.responses := rfl
@[simp] theorem setStation_notices (s : State) (a : Addr) (x : Station) :
    (setStation s a x).notices = s.notices := rfl
@[simp] theorem setStation_paused (s : State) (a : Addr) (x : Station) :
    (setStation s a x).paused = s.paused := rfl
@[simp] theorem setStation_window (s : State) (a : Addr) (x : Station) :
    (setStation s a x).window = s.window := rfl
@[simp] theorem setStation_rate (s : State) (a : Addr) (x : Station) :
    (setStation s a x).rate = s.rate := rfl
@[simp] theorem setStation_straps (s : State) (a : Addr) (x : Station) :
    (setStation s a x).straps = s.straps := rfl
@[simp] theorem setStation_resetLow (s : State) (a : Addr) (x : Station) :
    (setStation s a x).resetLow = s.resetLow := rfl
@[simp] theorem setStation_officeTx (s : State) (a : Addr) (x : Station) :
    (setStation s a x).officeTx = s.officeTx := rfl
@[simp] theorem setStation_floorTx (s : State) (a : Addr) (x : Station) :
    (setStation s a x).floorTx = s.floorTx := rfl
@[simp] theorem setStation_freeTick (s : State) (a : Addr) (x : Station) :
    (setStation s a x).freeTick = s.freeTick := rfl
@[simp] theorem setStation_pending (s : State) (a : Addr) (x : Station) :
    (setStation s a x).pending = s.pending := rfl

@[simp] theorem setPresence_accounts (s : State) (a : Addr) (x : PresenceRecord) :
    (setPresence s a x).accounts = s.accounts := rfl
@[simp] theorem setPresence_cards (s : State) (a : Addr) (x : PresenceRecord) :
    (setPresence s a x).cards = s.cards := rfl
@[simp] theorem setPresence_channels (s : State) (a : Addr) (x : PresenceRecord) :
    (setPresence s a x).channels = s.channels := rfl
@[simp] theorem setPresence_waitQueue (s : State) (a : Addr) (x : PresenceRecord) :
    (setPresence s a x).waitQueue = s.waitQueue := rfl
@[simp] theorem setPresence_plans (s : State) (a : Addr) (x : PresenceRecord) :
    (setPresence s a x).plans = s.plans := rfl
@[simp] theorem setPresence_journal (s : State) (a : Addr) (x : PresenceRecord) :
    (setPresence s a x).journal = s.journal := rfl
@[simp] theorem setPresence_reservations (s : State) (a : Addr) (x : PresenceRecord) :
    (setPresence s a x).reservations = s.reservations := rfl
@[simp] theorem setPresence_nextSeq (s : State) (a : Addr) (x : PresenceRecord) :
    (setPresence s a x).nextSeq = s.nextSeq := rfl
@[simp] theorem setPresence_meters (s : State) (a : Addr) (x : PresenceRecord) :
    (setPresence s a x).meters = s.meters := rfl
@[simp] theorem setPresence_mode (s : State) (a : Addr) (x : PresenceRecord) :
    (setPresence s a x).mode = s.mode := rfl
@[simp] theorem setPresence_freeVend (s : State) (a : Addr) (x : PresenceRecord) :
    (setPresence s a x).freeVend = s.freeVend := rfl
@[simp] theorem setPresence_adminEnable (s : State) (a : Addr) (x : PresenceRecord) :
    (setPresence s a x).adminEnable = s.adminEnable := rfl
@[simp] theorem setPresence_stations (s : State) (a : Addr) (x : PresenceRecord) :
    (setPresence s a x).stations = s.stations := rfl
@[simp] theorem setPresence_timers (s : State) (a : Addr) (x : PresenceRecord) :
    (setPresence s a x).timers = s.timers := rfl
@[simp] theorem setPresence_presence (s : State) (a : Addr) (x : PresenceRecord) : (setPresence s a x).presence = s.presence.set a x := rfl
@[simp] theorem setPresence_sweep (s : State) (a : Addr) (x : PresenceRecord) :
    (setPresence s a x).sweep = s.sweep := rfl
@[simp] theorem setPresence_awaiting (s : State) (a : Addr) (x : PresenceRecord) :
    (setPresence s a x).awaiting = s.awaiting := rfl
@[simp] theorem setPresence_roundPos (s : State) (a : Addr) (x : PresenceRecord) :
    (setPresence s a x).roundPos = s.roundPos := rfl
@[simp] theorem setPresence_lastProbed (s : State) (a : Addr) (x : PresenceRecord) :
    (setPresence s a x).lastProbed = s.lastProbed := rfl
@[simp] theorem setPresence_responses (s : State) (a : Addr) (x : PresenceRecord) :
    (setPresence s a x).responses = s.responses := rfl
@[simp] theorem setPresence_notices (s : State) (a : Addr) (x : PresenceRecord) :
    (setPresence s a x).notices = s.notices := rfl
@[simp] theorem setPresence_paused (s : State) (a : Addr) (x : PresenceRecord) :
    (setPresence s a x).paused = s.paused := rfl
@[simp] theorem setPresence_window (s : State) (a : Addr) (x : PresenceRecord) :
    (setPresence s a x).window = s.window := rfl
@[simp] theorem setPresence_rate (s : State) (a : Addr) (x : PresenceRecord) :
    (setPresence s a x).rate = s.rate := rfl
@[simp] theorem setPresence_straps (s : State) (a : Addr) (x : PresenceRecord) :
    (setPresence s a x).straps = s.straps := rfl
@[simp] theorem setPresence_resetLow (s : State) (a : Addr) (x : PresenceRecord) :
    (setPresence s a x).resetLow = s.resetLow := rfl
@[simp] theorem setPresence_officeTx (s : State) (a : Addr) (x : PresenceRecord) :
    (setPresence s a x).officeTx = s.officeTx := rfl
@[simp] theorem setPresence_floorTx (s : State) (a : Addr) (x : PresenceRecord) :
    (setPresence s a x).floorTx = s.floorTx := rfl
@[simp] theorem setPresence_freeTick (s : State) (a : Addr) (x : PresenceRecord) :
    (setPresence s a x).freeTick = s.freeTick := rfl
@[simp] theorem setPresence_pending (s : State) (a : Addr) (x : PresenceRecord) :
    (setPresence s a x).pending = s.pending := rfl

@[simp] theorem placeNotice_accounts (s : State) (n : NoticeEntry) :
    (placeNotice s n).accounts = s.accounts := rfl
@[simp] theorem placeNotice_cards (s : State) (n : NoticeEntry) :
    (placeNotice s n).cards = s.cards := rfl
@[simp] theorem placeNotice_channels (s : State) (n : NoticeEntry) :
    (placeNotice s n).channels = s.channels := rfl
@[simp] theorem placeNotice_waitQueue (s : State) (n : NoticeEntry) :
    (placeNotice s n).waitQueue = s.waitQueue := rfl
@[simp] theorem placeNotice_plans (s : State) (n : NoticeEntry) :
    (placeNotice s n).plans = s.plans := rfl
@[simp] theorem placeNotice_journal (s : State) (n : NoticeEntry) :
    (placeNotice s n).journal = s.journal := rfl
@[simp] theorem placeNotice_reservations (s : State) (n : NoticeEntry) :
    (placeNotice s n).reservations = s.reservations := rfl
@[simp] theorem placeNotice_nextSeq (s : State) (n : NoticeEntry) :
    (placeNotice s n).nextSeq = s.nextSeq := rfl
@[simp] theorem placeNotice_meters (s : State) (n : NoticeEntry) :
    (placeNotice s n).meters = s.meters := rfl
@[simp] theorem placeNotice_mode (s : State) (n : NoticeEntry) :
    (placeNotice s n).mode = s.mode := rfl
@[simp] theorem placeNotice_freeVend (s : State) (n : NoticeEntry) :
    (placeNotice s n).freeVend = s.freeVend := rfl
@[simp] theorem placeNotice_adminEnable (s : State) (n : NoticeEntry) :
    (placeNotice s n).adminEnable = s.adminEnable := rfl
@[simp] theorem placeNotice_stations (s : State) (n : NoticeEntry) :
    (placeNotice s n).stations = s.stations := rfl
@[simp] theorem placeNotice_timers (s : State) (n : NoticeEntry) :
    (placeNotice s n).timers = s.timers := rfl
@[simp] theorem placeNotice_presence (s : State) (n : NoticeEntry) :
    (placeNotice s n).presence = s.presence := rfl
@[simp] theorem placeNotice_sweep (s : State) (n : NoticeEntry) :
    (placeNotice s n).sweep = s.sweep := rfl
@[simp] theorem placeNotice_awaiting (s : State) (n : NoticeEntry) :
    (placeNotice s n).awaiting = s.awaiting := rfl
@[simp] theorem placeNotice_roundPos (s : State) (n : NoticeEntry) :
    (placeNotice s n).roundPos = s.roundPos := rfl
@[simp] theorem placeNotice_lastProbed (s : State) (n : NoticeEntry) :
    (placeNotice s n).lastProbed = s.lastProbed := rfl
@[simp] theorem placeNotice_responses (s : State) (n : NoticeEntry) :
    (placeNotice s n).responses = s.responses := rfl
@[simp] theorem placeNotice_notices (s : State) (n : NoticeEntry) : (placeNotice s n).notices = placeIn n s.notices := rfl
@[simp] theorem placeNotice_paused (s : State) (n : NoticeEntry) :
    (placeNotice s n).paused = s.paused := rfl
@[simp] theorem placeNotice_window (s : State) (n : NoticeEntry) :
    (placeNotice s n).window = s.window := rfl
@[simp] theorem placeNotice_rate (s : State) (n : NoticeEntry) :
    (placeNotice s n).rate = s.rate := rfl
@[simp] theorem placeNotice_straps (s : State) (n : NoticeEntry) :
    (placeNotice s n).straps = s.straps := rfl
@[simp] theorem placeNotice_resetLow (s : State) (n : NoticeEntry) :
    (placeNotice s n).resetLow = s.resetLow := rfl
@[simp] theorem placeNotice_officeTx (s : State) (n : NoticeEntry) :
    (placeNotice s n).officeTx = s.officeTx := rfl
@[simp] theorem placeNotice_floorTx (s : State) (n : NoticeEntry) :
    (placeNotice s n).floorTx = s.floorTx := rfl
@[simp] theorem placeNotice_freeTick (s : State) (n : NoticeEntry) :
    (placeNotice s n).freeTick = s.freeTick := rfl
@[simp] theorem placeNotice_pending (s : State) (n : NoticeEntry) :
    (placeNotice s n).pending = s.pending := rfl

@[simp] theorem writeRecord_accounts (s : State) (b : RecordBody) :
    (writeRecord s b).accounts = s.accounts := rfl
@[simp] theorem writeRecord_cards (s : State) (b : RecordBody) :
    (writeRecord s b).cards = s.cards := rfl
@[simp] theorem writeRecord_channels (s : State) (b : RecordBody) :
    (writeRecord s b).channels = s.channels := rfl
@[simp] theorem writeRecord_waitQueue (s : State) (b : RecordBody) :
    (writeRecord s b).waitQueue = s.waitQueue := rfl
@[simp] theorem writeRecord_plans (s : State) (b : RecordBody) :
    (writeRecord s b).plans = s.plans := rfl
@[simp] theorem writeRecord_reservations (s : State) (b : RecordBody) :
    (writeRecord s b).reservations = s.reservations := rfl
@[simp] theorem writeRecord_meters (s : State) (b : RecordBody) :
    (writeRecord s b).meters = s.meters := rfl
@[simp] theorem writeRecord_mode (s : State) (b : RecordBody) :
    (writeRecord s b).mode = s.mode := rfl
@[simp] theorem writeRecord_freeVend (s : State) (b : RecordBody) :
    (writeRecord s b).freeVend = s.freeVend := rfl
@[simp] theorem writeRecord_adminEnable (s : State) (b : RecordBody) :
    (writeRecord s b).adminEnable = s.adminEnable := rfl
@[simp] theorem writeRecord_stations (s : State) (b : RecordBody) :
    (writeRecord s b).stations = s.stations := rfl
@[simp] theorem writeRecord_timers (s : State) (b : RecordBody) :
    (writeRecord s b).timers = s.timers := rfl
@[simp] theorem writeRecord_presence (s : State) (b : RecordBody) :
    (writeRecord s b).presence = s.presence := rfl
@[simp] theorem writeRecord_sweep (s : State) (b : RecordBody) :
    (writeRecord s b).sweep = s.sweep := rfl
@[simp] theorem writeRecord_awaiting (s : State) (b : RecordBody) :
    (writeRecord s b).awaiting = s.awaiting := rfl
@[simp] theorem writeRecord_roundPos (s : State) (b : RecordBody) :
    (writeRecord s b).roundPos = s.roundPos := rfl
@[simp] theorem writeRecord_lastProbed (s : State) (b : RecordBody) :
    (writeRecord s b).lastProbed = s.lastProbed := rfl
@[simp] theorem writeRecord_responses (s : State) (b : RecordBody) :
    (writeRecord s b).responses = s.responses := rfl
@[simp] theorem writeRecord_notices (s : State) (b : RecordBody) :
    (writeRecord s b).notices = s.notices := rfl
@[simp] theorem writeRecord_paused (s : State) (b : RecordBody) :
    (writeRecord s b).paused = s.paused := rfl
@[simp] theorem writeRecord_window (s : State) (b : RecordBody) :
    (writeRecord s b).window = s.window := rfl
@[simp] theorem writeRecord_rate (s : State) (b : RecordBody) :
    (writeRecord s b).rate = s.rate := rfl
@[simp] theorem writeRecord_straps (s : State) (b : RecordBody) :
    (writeRecord s b).straps = s.straps := rfl
@[simp] theorem writeRecord_resetLow (s : State) (b : RecordBody) :
    (writeRecord s b).resetLow = s.resetLow := rfl
@[simp] theorem writeRecord_officeTx (s : State) (b : RecordBody) :
    (writeRecord s b).officeTx = s.officeTx := rfl
@[simp] theorem writeRecord_floorTx (s : State) (b : RecordBody) :
    (writeRecord s b).floorTx = s.floorTx := rfl
@[simp] theorem writeRecord_freeTick (s : State) (b : RecordBody) :
    (writeRecord s b).freeTick = s.freeTick := rfl
@[simp] theorem writeRecord_pending (s : State) (b : RecordBody) :
    (writeRecord s b).pending = s.pending := rfl

@[simp] theorem respond_accounts (s : State) (kind req : Nat) (st : Status) (f : Figures) :
    (respond s kind req st f).accounts = s.accounts := rfl
@[simp] theorem respond_cards (s : State) (kind req : Nat) (st : Status) (f : Figures) :
    (respond s kind req st f).cards = s.cards := rfl
@[simp] theorem respond_channels (s : State) (kind req : Nat) (st : Status) (f : Figures) :
    (respond s kind req st f).channels = s.channels := rfl
@[simp] theorem respond_waitQueue (s : State) (kind req : Nat) (st : Status) (f : Figures) :
    (respond s kind req st f).waitQueue = s.waitQueue := rfl
@[simp] theorem respond_plans (s : State) (kind req : Nat) (st : Status) (f : Figures) :
    (respond s kind req st f).plans = s.plans := rfl
@[simp] theorem respond_journal (s : State) (kind req : Nat) (st : Status) (f : Figures) :
    (respond s kind req st f).journal = s.journal := rfl
@[simp] theorem respond_reservations (s : State) (kind req : Nat) (st : Status) (f : Figures) :
    (respond s kind req st f).reservations = s.reservations := rfl
@[simp] theorem respond_nextSeq (s : State) (kind req : Nat) (st : Status) (f : Figures) :
    (respond s kind req st f).nextSeq = s.nextSeq := rfl
@[simp] theorem respond_meters (s : State) (kind req : Nat) (st : Status) (f : Figures) :
    (respond s kind req st f).meters = s.meters := rfl
@[simp] theorem respond_mode (s : State) (kind req : Nat) (st : Status) (f : Figures) :
    (respond s kind req st f).mode = s.mode := rfl
@[simp] theorem respond_freeVend (s : State) (kind req : Nat) (st : Status) (f : Figures) :
    (respond s kind req st f).freeVend = s.freeVend := rfl
@[simp] theorem respond_adminEnable (s : State) (kind req : Nat) (st : Status) (f : Figures) :
    (respond s kind req st f).adminEnable = s.adminEnable := rfl
@[simp] theorem respond_stations (s : State) (kind req : Nat) (st : Status) (f : Figures) :
    (respond s kind req st f).stations = s.stations := rfl
@[simp] theorem respond_timers (s : State) (kind req : Nat) (st : Status) (f : Figures) :
    (respond s kind req st f).timers = s.timers := rfl
@[simp] theorem respond_presence (s : State) (kind req : Nat) (st : Status) (f : Figures) :
    (respond s kind req st f).presence = s.presence := rfl
@[simp] theorem respond_sweep (s : State) (kind req : Nat) (st : Status) (f : Figures) :
    (respond s kind req st f).sweep = s.sweep := rfl
@[simp] theorem respond_awaiting (s : State) (kind req : Nat) (st : Status) (f : Figures) :
    (respond s kind req st f).awaiting = s.awaiting := rfl
@[simp] theorem respond_roundPos (s : State) (kind req : Nat) (st : Status) (f : Figures) :
    (respond s kind req st f).roundPos = s.roundPos := rfl
@[simp] theorem respond_lastProbed (s : State) (kind req : Nat) (st : Status) (f : Figures) :
    (respond s kind req st f).lastProbed = s.lastProbed := rfl
@[simp] theorem respond_responses (s : State) (kind req : Nat) (st : Status) (f : Figures) : (respond s kind req st f).responses = s.responses ++ [{ kind, req, status := st, figures := f }] := rfl
@[simp] theorem respond_notices (s : State) (kind req : Nat) (st : Status) (f : Figures) :
    (respond s kind req st f).notices = s.notices := rfl
@[simp] theorem respond_paused (s : State) (kind req : Nat) (st : Status) (f : Figures) :
    (respond s kind req st f).paused = s.paused := rfl
@[simp] theorem respond_window (s : State) (kind req : Nat) (st : Status) (f : Figures) :
    (respond s kind req st f).window = s.window := rfl
@[simp] theorem respond_rate (s : State) (kind req : Nat) (st : Status) (f : Figures) :
    (respond s kind req st f).rate = s.rate := rfl
@[simp] theorem respond_straps (s : State) (kind req : Nat) (st : Status) (f : Figures) :
    (respond s kind req st f).straps = s.straps := rfl
@[simp] theorem respond_resetLow (s : State) (kind req : Nat) (st : Status) (f : Figures) :
    (respond s kind req st f).resetLow = s.resetLow := rfl
@[simp] theorem respond_officeTx (s : State) (kind req : Nat) (st : Status) (f : Figures) :
    (respond s kind req st f).officeTx = s.officeTx := rfl
@[simp] theorem respond_floorTx (s : State) (kind req : Nat) (st : Status) (f : Figures) :
    (respond s kind req st f).floorTx = s.floorTx := rfl
@[simp] theorem respond_freeTick (s : State) (kind req : Nat) (st : Status) (f : Figures) :
    (respond s kind req st f).freeTick = s.freeTick := rfl
@[simp] theorem respond_pending (s : State) (kind req : Nat) (st : Status) (f : Figures) :
    (respond s kind req st f).pending = s.pending := rfl

@[simp] theorem enter_accounts (s : State) (a : Addr) (st : StationState) :
    (enter s a st).accounts = s.accounts := rfl
@[simp] theorem enter_cards (s : State) (a : Addr) (st : StationState) :
    (enter s a st).cards = s.cards := rfl
@[simp] theorem enter_channels (s : State) (a : Addr) (st : StationState) :
    (enter s a st).channels = s.channels := rfl
@[simp] theorem enter_waitQueue (s : State) (a : Addr) (st : StationState) :
    (enter s a st).waitQueue = s.waitQueue := rfl
@[simp] theorem enter_plans (s : State) (a : Addr) (st : StationState) :
    (enter s a st).plans = s.plans := rfl
@[simp] theorem enter_journal (s : State) (a : Addr) (st : StationState) :
    (enter s a st).journal = s.journal := rfl
@[simp] theorem enter_reservations (s : State) (a : Addr) (st : StationState) :
    (enter s a st).reservations = s.reservations := rfl
@[simp] theorem enter_nextSeq (s : State) (a : Addr) (st : StationState) :
    (enter s a st).nextSeq = s.nextSeq := rfl
@[simp] theorem enter_meters (s : State) (a : Addr) (st : StationState) :
    (enter s a st).meters = s.meters := rfl
@[simp] theorem enter_mode (s : State) (a : Addr) (st : StationState) :
    (enter s a st).mode = s.mode := rfl
@[simp] theorem enter_freeVend (s : State) (a : Addr) (st : StationState) :
    (enter s a st).freeVend = s.freeVend := rfl
@[simp] theorem enter_adminEnable (s : State) (a : Addr) (st : StationState) :
    (enter s a st).adminEnable = s.adminEnable := rfl
@[simp] theorem enter_timers (s : State) (a : Addr) (st : StationState) :
    (enter s a st).timers = s.timers := rfl
@[simp] theorem enter_sweep (s : State) (a : Addr) (st : StationState) :
    (enter s a st).sweep = s.sweep := rfl
@[simp] theorem enter_awaiting (s : State) (a : Addr) (st : StationState) :
    (enter s a st).awaiting = s.awaiting := rfl
@[simp] theorem enter_roundPos (s : State) (a : Addr) (st : StationState) :
    (enter s a st).roundPos = s.roundPos := rfl
@[simp] theorem enter_lastProbed (s : State) (a : Addr) (st : StationState) :
    (enter s a st).lastProbed = s.lastProbed := rfl
@[simp] theorem enter_responses (s : State) (a : Addr) (st : StationState) :
    (enter s a st).responses = s.responses := rfl
@[simp] theorem enter_notices (s : State) (a : Addr) (st : StationState) :
    (enter s a st).notices = s.notices := rfl
@[simp] theorem enter_paused (s : State) (a : Addr) (st : StationState) :
    (enter s a st).paused = s.paused := rfl
@[simp] theorem enter_window (s : State) (a : Addr) (st : StationState) :
    (enter s a st).window = s.window := rfl
@[simp] theorem enter_rate (s : State) (a : Addr) (st : StationState) :
    (enter s a st).rate = s.rate := rfl
@[simp] theorem enter_straps (s : State) (a : Addr) (st : StationState) :
    (enter s a st).straps = s.straps := rfl
@[simp] theorem enter_resetLow (s : State) (a : Addr) (st : StationState) :
    (enter s a st).resetLow = s.resetLow := rfl
@[simp] theorem enter_officeTx (s : State) (a : Addr) (st : StationState) :
    (enter s a st).officeTx = s.officeTx := rfl
@[simp] theorem enter_floorTx (s : State) (a : Addr) (st : StationState) :
    (enter s a st).floorTx = s.floorTx := rfl
@[simp] theorem enter_freeTick (s : State) (a : Addr) (st : StationState) :
    (enter s a st).freeTick = s.freeTick := rfl
@[simp] theorem enter_pending (s : State) (a : Addr) (st : StationState) :
    (enter s a st).pending = s.pending := rfl

@[simp] theorem startTimer_accounts (s : State) (a : Addr) (k : TimerKind) :
    (startTimer s a k).accounts = s.accounts := rfl
@[simp] theorem startTimer_cards (s : State) (a : Addr) (k : TimerKind) :
    (startTimer s a k).cards = s.cards := rfl
@[simp] theorem startTimer_channels (s : State) (a : Addr) (k : TimerKind) :
    (startTimer s a k).channels = s.channels := rfl
@[simp] theorem startTimer_waitQueue (s : State) (a : Addr) (k : TimerKind) :
    (startTimer s a k).waitQueue = s.waitQueue := rfl
@[simp] theorem startTimer_plans (s : State) (a : Addr) (k : TimerKind) :
    (startTimer s a k).plans = s.plans := rfl
@[simp] theorem startTimer_journal (s : State) (a : Addr) (k : TimerKind) :
    (startTimer s a k).journal = s.journal := rfl
@[simp] theorem startTimer_reservations (s : State) (a : Addr) (k : TimerKind) :
    (startTimer s a k).reservations = s.reservations := rfl
@[simp] theorem startTimer_nextSeq (s : State) (a : Addr) (k : TimerKind) :
    (startTimer s a k).nextSeq = s.nextSeq := rfl
@[simp] theorem startTimer_meters (s : State) (a : Addr) (k : TimerKind) :
    (startTimer s a k).meters = s.meters := rfl
@[simp] theorem startTimer_mode (s : State) (a : Addr) (k : TimerKind) :
    (startTimer s a k).mode = s.mode := rfl
@[simp] theorem startTimer_freeVend (s : State) (a : Addr) (k : TimerKind) :
    (startTimer s a k).freeVend = s.freeVend := rfl
@[simp] theorem startTimer_adminEnable (s : State) (a : Addr) (k : TimerKind) :
    (startTimer s a k).adminEnable = s.adminEnable := rfl
@[simp] theorem startTimer_timers (s : State) (a : Addr) (k : TimerKind) :
    (startTimer s a k).timers = s.timers := rfl
@[simp] theorem startTimer_presence (s : State) (a : Addr) (k : TimerKind) :
    (startTimer s a k).presence = s.presence := rfl
@[simp] theorem startTimer_sweep (s : State) (a : Addr) (k : TimerKind) :
    (startTimer s a k).sweep = s.sweep := rfl
@[simp] theorem startTimer_awaiting (s : State) (a : Addr) (k : TimerKind) :
    (startTimer s a k).awaiting = s.awaiting := rfl
@[simp] theorem startTimer_roundPos (s : State) (a : Addr) (k : TimerKind) :
    (startTimer s a k).roundPos = s.roundPos := rfl
@[simp] theorem startTimer_lastProbed (s : State) (a : Addr) (k : TimerKind) :
    (startTimer s a k).lastProbed = s.lastProbed := rfl
@[simp] theorem startTimer_responses (s : State) (a : Addr) (k : TimerKind) :
    (startTimer s a k).responses = s.responses := rfl
@[simp] theorem startTimer_notices (s : State) (a : Addr) (k : TimerKind) :
    (startTimer s a k).notices = s.notices := rfl
@[simp] theorem startTimer_paused (s : State) (a : Addr) (k : TimerKind) :
    (startTimer s a k).paused = s.paused := rfl
@[simp] theorem startTimer_window (s : State) (a : Addr) (k : TimerKind) :
    (startTimer s a k).window = s.window := rfl
@[simp] theorem startTimer_rate (s : State) (a : Addr) (k : TimerKind) :
    (startTimer s a k).rate = s.rate := rfl
@[simp] theorem startTimer_straps (s : State) (a : Addr) (k : TimerKind) :
    (startTimer s a k).straps = s.straps := rfl
@[simp] theorem startTimer_resetLow (s : State) (a : Addr) (k : TimerKind) :
    (startTimer s a k).resetLow = s.resetLow := rfl
@[simp] theorem startTimer_officeTx (s : State) (a : Addr) (k : TimerKind) :
    (startTimer s a k).officeTx = s.officeTx := rfl
@[simp] theorem startTimer_floorTx (s : State) (a : Addr) (k : TimerKind) :
    (startTimer s a k).floorTx = s.floorTx := rfl
@[simp] theorem startTimer_freeTick (s : State) (a : Addr) (k : TimerKind) :
    (startTimer s a k).freeTick = s.freeTick := rfl
@[simp] theorem startTimer_pending (s : State) (a : Addr) (k : TimerKind) :
    (startTimer s a k).pending = s.pending := rfl

@[simp] theorem stopTimer_accounts (s : State) (a : Addr) :
    (stopTimer s a).accounts = s.accounts := rfl
@[simp] theorem stopTimer_cards (s : State) (a : Addr) :
    (stopTimer s a).cards = s.cards := rfl
@[simp] theorem stopTimer_channels (s : State) (a : Addr) :
    (stopTimer s a).channels = s.channels := rfl
@[simp] theorem stopTimer_waitQueue (s : State) (a : Addr) :
    (stopTimer s a).waitQueue = s.waitQueue := rfl
@[simp] theorem stopTimer_plans (s : State) (a : Addr) :
    (stopTimer s a).plans = s.plans := rfl
@[simp] theorem stopTimer_journal (s : State) (a : Addr) :
    (stopTimer s a).journal = s.journal := rfl
@[simp] theorem stopTimer_reservations (s : State) (a : Addr) :
    (stopTimer s a).reservations = s.reservations := rfl
@[simp] theorem stopTimer_nextSeq (s : State) (a : Addr) :
    (stopTimer s a).nextSeq = s.nextSeq := rfl
@[simp] theorem stopTimer_meters (s : State) (a : Addr) :
    (stopTimer s a).meters = s.meters := rfl
@[simp] theorem stopTimer_mode (s : State) (a : Addr) :
    (stopTimer s a).mode = s.mode := rfl
@[simp] theorem stopTimer_freeVend (s : State) (a : Addr) :
    (stopTimer s a).freeVend = s.freeVend := rfl
@[simp] theorem stopTimer_adminEnable (s : State) (a : Addr) :
    (stopTimer s a).adminEnable = s.adminEnable := rfl
@[simp] theorem stopTimer_timers (s : State) (a : Addr) :
    (stopTimer s a).timers = s.timers := rfl
@[simp] theorem stopTimer_presence (s : State) (a : Addr) :
    (stopTimer s a).presence = s.presence := rfl
@[simp] theorem stopTimer_sweep (s : State) (a : Addr) :
    (stopTimer s a).sweep = s.sweep := rfl
@[simp] theorem stopTimer_awaiting (s : State) (a : Addr) :
    (stopTimer s a).awaiting = s.awaiting := rfl
@[simp] theorem stopTimer_roundPos (s : State) (a : Addr) :
    (stopTimer s a).roundPos = s.roundPos := rfl
@[simp] theorem stopTimer_lastProbed (s : State) (a : Addr) :
    (stopTimer s a).lastProbed = s.lastProbed := rfl
@[simp] theorem stopTimer_responses (s : State) (a : Addr) :
    (stopTimer s a).responses = s.responses := rfl
@[simp] theorem stopTimer_notices (s : State) (a : Addr) :
    (stopTimer s a).notices = s.notices := rfl
@[simp] theorem stopTimer_paused (s : State) (a : Addr) :
    (stopTimer s a).paused = s.paused := rfl
@[simp] theorem stopTimer_window (s : State) (a : Addr) :
    (stopTimer s a).window = s.window := rfl
@[simp] theorem stopTimer_rate (s : State) (a : Addr) :
    (stopTimer s a).rate = s.rate := rfl
@[simp] theorem stopTimer_straps (s : State) (a : Addr) :
    (stopTimer s a).straps = s.straps := rfl
@[simp] theorem stopTimer_resetLow (s : State) (a : Addr) :
    (stopTimer s a).resetLow = s.resetLow := rfl
@[simp] theorem stopTimer_officeTx (s : State) (a : Addr) :
    (stopTimer s a).officeTx = s.officeTx := rfl
@[simp] theorem stopTimer_floorTx (s : State) (a : Addr) :
    (stopTimer s a).floorTx = s.floorTx := rfl
@[simp] theorem stopTimer_freeTick (s : State) (a : Addr) :
    (stopTimer s a).freeTick = s.freeTick := rfl
@[simp] theorem stopTimer_pending (s : State) (a : Addr) :
    (stopTimer s a).pending = s.pending := rfl

@[simp] theorem startLossTimer_accounts (s : State) (a : Addr) :
    (startLossTimer s a).accounts = s.accounts := rfl
@[simp] theorem startLossTimer_cards (s : State) (a : Addr) :
    (startLossTimer s a).cards = s.cards := rfl
@[simp] theorem startLossTimer_channels (s : State) (a : Addr) :
    (startLossTimer s a).channels = s.channels := rfl
@[simp] theorem startLossTimer_waitQueue (s : State) (a : Addr) :
    (startLossTimer s a).waitQueue = s.waitQueue := rfl
@[simp] theorem startLossTimer_plans (s : State) (a : Addr) :
    (startLossTimer s a).plans = s.plans := rfl
@[simp] theorem startLossTimer_journal (s : State) (a : Addr) :
    (startLossTimer s a).journal = s.journal := rfl
@[simp] theorem startLossTimer_reservations (s : State) (a : Addr) :
    (startLossTimer s a).reservations = s.reservations := rfl
@[simp] theorem startLossTimer_nextSeq (s : State) (a : Addr) :
    (startLossTimer s a).nextSeq = s.nextSeq := rfl
@[simp] theorem startLossTimer_meters (s : State) (a : Addr) :
    (startLossTimer s a).meters = s.meters := rfl
@[simp] theorem startLossTimer_mode (s : State) (a : Addr) :
    (startLossTimer s a).mode = s.mode := rfl
@[simp] theorem startLossTimer_freeVend (s : State) (a : Addr) :
    (startLossTimer s a).freeVend = s.freeVend := rfl
@[simp] theorem startLossTimer_adminEnable (s : State) (a : Addr) :
    (startLossTimer s a).adminEnable = s.adminEnable := rfl
@[simp] theorem startLossTimer_stations (s : State) (a : Addr) :
    (startLossTimer s a).stations = s.stations := rfl
@[simp] theorem startLossTimer_timers (s : State) (a : Addr) :
    (startLossTimer s a).timers = s.timers := rfl
@[simp] theorem startLossTimer_sweep (s : State) (a : Addr) :
    (startLossTimer s a).sweep = s.sweep := rfl
@[simp] theorem startLossTimer_awaiting (s : State) (a : Addr) :
    (startLossTimer s a).awaiting = s.awaiting := rfl
@[simp] theorem startLossTimer_roundPos (s : State) (a : Addr) :
    (startLossTimer s a).roundPos = s.roundPos := rfl
@[simp] theorem startLossTimer_lastProbed (s : State) (a : Addr) :
    (startLossTimer s a).lastProbed = s.lastProbed := rfl
@[simp] theorem startLossTimer_responses (s : State) (a : Addr) :
    (startLossTimer s a).responses = s.responses := rfl
@[simp] theorem startLossTimer_notices (s : State) (a : Addr) :
    (startLossTimer s a).notices = s.notices := rfl
@[simp] theorem startLossTimer_paused (s : State) (a : Addr) :
    (startLossTimer s a).paused = s.paused := rfl
@[simp] theorem startLossTimer_window (s : State) (a : Addr) :
    (startLossTimer s a).window = s.window := rfl
@[simp] theorem startLossTimer_rate (s : State) (a : Addr) :
    (startLossTimer s a).rate = s.rate := rfl
@[simp] theorem startLossTimer_straps (s : State) (a : Addr) :
    (startLossTimer s a).straps = s.straps := rfl
@[simp] theorem startLossTimer_resetLow (s : State) (a : Addr) :
    (startLossTimer s a).resetLow = s.resetLow := rfl
@[simp] theorem startLossTimer_officeTx (s : State) (a : Addr) :
    (startLossTimer s a).officeTx = s.officeTx := rfl
@[simp] theorem startLossTimer_floorTx (s : State) (a : Addr) :
    (startLossTimer s a).floorTx = s.floorTx := rfl
@[simp] theorem startLossTimer_freeTick (s : State) (a : Addr) :
    (startLossTimer s a).freeTick = s.freeTick := rfl
@[simp] theorem startLossTimer_pending (s : State) (a : Addr) :
    (startLossTimer s a).pending = s.pending := rfl

@[simp] theorem newlyPresent_accounts (s : State) (a : Addr) :
    (newlyPresent s a).accounts = s.accounts := rfl
@[simp] theorem newlyPresent_cards (s : State) (a : Addr) :
    (newlyPresent s a).cards = s.cards := rfl
@[simp] theorem newlyPresent_channels (s : State) (a : Addr) :
    (newlyPresent s a).channels = s.channels := rfl
@[simp] theorem newlyPresent_waitQueue (s : State) (a : Addr) :
    (newlyPresent s a).waitQueue = s.waitQueue := rfl
@[simp] theorem newlyPresent_plans (s : State) (a : Addr) :
    (newlyPresent s a).plans = s.plans := rfl
@[simp] theorem newlyPresent_journal (s : State) (a : Addr) :
    (newlyPresent s a).journal = s.journal := rfl
@[simp] theorem newlyPresent_reservations (s : State) (a : Addr) :
    (newlyPresent s a).reservations = s.reservations := rfl
@[simp] theorem newlyPresent_nextSeq (s : State) (a : Addr) :
    (newlyPresent s a).nextSeq = s.nextSeq := rfl
@[simp] theorem newlyPresent_meters (s : State) (a : Addr) :
    (newlyPresent s a).meters = s.meters := rfl
@[simp] theorem newlyPresent_mode (s : State) (a : Addr) :
    (newlyPresent s a).mode = s.mode := rfl
@[simp] theorem newlyPresent_freeVend (s : State) (a : Addr) :
    (newlyPresent s a).freeVend = s.freeVend := rfl
@[simp] theorem newlyPresent_adminEnable (s : State) (a : Addr) :
    (newlyPresent s a).adminEnable = s.adminEnable := rfl
@[simp] theorem newlyPresent_timers (s : State) (a : Addr) :
    (newlyPresent s a).timers = s.timers := rfl
@[simp] theorem newlyPresent_presence (s : State) (a : Addr) :
    (newlyPresent s a).presence = s.presence := rfl
@[simp] theorem newlyPresent_sweep (s : State) (a : Addr) :
    (newlyPresent s a).sweep = s.sweep := rfl
@[simp] theorem newlyPresent_awaiting (s : State) (a : Addr) :
    (newlyPresent s a).awaiting = s.awaiting := rfl
@[simp] theorem newlyPresent_roundPos (s : State) (a : Addr) :
    (newlyPresent s a).roundPos = s.roundPos := rfl
@[simp] theorem newlyPresent_lastProbed (s : State) (a : Addr) :
    (newlyPresent s a).lastProbed = s.lastProbed := rfl
@[simp] theorem newlyPresent_responses (s : State) (a : Addr) :
    (newlyPresent s a).responses = s.responses := rfl
@[simp] theorem newlyPresent_notices (s : State) (a : Addr) :
    (newlyPresent s a).notices = s.notices := rfl
@[simp] theorem newlyPresent_paused (s : State) (a : Addr) :
    (newlyPresent s a).paused = s.paused := rfl
@[simp] theorem newlyPresent_window (s : State) (a : Addr) :
    (newlyPresent s a).window = s.window := rfl
@[simp] theorem newlyPresent_rate (s : State) (a : Addr) :
    (newlyPresent s a).rate = s.rate := rfl
@[simp] theorem newlyPresent_straps (s : State) (a : Addr) :
    (newlyPresent s a).straps = s.straps := rfl
@[simp] theorem newlyPresent_resetLow (s : State) (a : Addr) :
    (newlyPresent s a).resetLow = s.resetLow := rfl
@[simp] theorem newlyPresent_officeTx (s : State) (a : Addr) :
    (newlyPresent s a).officeTx = s.officeTx := rfl
@[simp] theorem newlyPresent_floorTx (s : State) (a : Addr) :
    (newlyPresent s a).floorTx = s.floorTx := rfl
@[simp] theorem newlyPresent_freeTick (s : State) (a : Addr) :
    (newlyPresent s a).freeTick = s.freeTick := rfl
@[simp] theorem newlyPresent_pending (s : State) (a : Addr) :
    (newlyPresent s a).pending = s.pending := rfl

@[simp] theorem setJob_accounts (s : State) (a : Addr) (j : Job) :
    (setJob s a j).accounts = s.accounts := rfl
@[simp] theorem setJob_cards (s : State) (a : Addr) (j : Job) :
    (setJob s a j).cards = s.cards := rfl
@[simp] theorem setJob_channels (s : State) (a : Addr) (j : Job) :
    (setJob s a j).channels = s.channels := rfl
@[simp] theorem setJob_waitQueue (s : State) (a : Addr) (j : Job) :
    (setJob s a j).waitQueue = s.waitQueue := rfl
@[simp] theorem setJob_plans (s : State) (a : Addr) (j : Job) :
    (setJob s a j).plans = s.plans := rfl
@[simp] theorem setJob_journal (s : State) (a : Addr) (j : Job) :
    (setJob s a j).journal = s.journal := rfl
@[simp] theorem setJob_reservations (s : State) (a : Addr) (j : Job) :
    (setJob s a j).reservations = s.reservations := rfl
@[simp] theorem setJob_nextSeq (s : State) (a : Addr) (j : Job) :
    (setJob s a j).nextSeq = s.nextSeq := rfl
@[simp] theorem setJob_meters (s : State) (a : Addr) (j : Job) :
    (setJob s a j).meters = s.meters := rfl
@[simp] theorem setJob_mode (s : State) (a : Addr) (j : Job) :
    (setJob s a j).mode = s.mode := rfl
@[simp] theorem setJob_freeVend (s : State) (a : Addr) (j : Job) :
    (setJob s a j).freeVend = s.freeVend := rfl
@[simp] theorem setJob_adminEnable (s : State) (a : Addr) (j : Job) :
    (setJob s a j).adminEnable = s.adminEnable := rfl
@[simp] theorem setJob_timers (s : State) (a : Addr) (j : Job) :
    (setJob s a j).timers = s.timers := rfl
@[simp] theorem setJob_presence (s : State) (a : Addr) (j : Job) :
    (setJob s a j).presence = s.presence := rfl
@[simp] theorem setJob_sweep (s : State) (a : Addr) (j : Job) :
    (setJob s a j).sweep = s.sweep := rfl
@[simp] theorem setJob_awaiting (s : State) (a : Addr) (j : Job) :
    (setJob s a j).awaiting = s.awaiting := rfl
@[simp] theorem setJob_roundPos (s : State) (a : Addr) (j : Job) :
    (setJob s a j).roundPos = s.roundPos := rfl
@[simp] theorem setJob_lastProbed (s : State) (a : Addr) (j : Job) :
    (setJob s a j).lastProbed = s.lastProbed := rfl
@[simp] theorem setJob_responses (s : State) (a : Addr) (j : Job) :
    (setJob s a j).responses = s.responses := rfl
@[simp] theorem setJob_notices (s : State) (a : Addr) (j : Job) :
    (setJob s a j).notices = s.notices := rfl
@[simp] theorem setJob_paused (s : State) (a : Addr) (j : Job) :
    (setJob s a j).paused = s.paused := rfl
@[simp] theorem setJob_window (s : State) (a : Addr) (j : Job) :
    (setJob s a j).window = s.window := rfl
@[simp] theorem setJob_rate (s : State) (a : Addr) (j : Job) :
    (setJob s a j).rate = s.rate := rfl
@[simp] theorem setJob_straps (s : State) (a : Addr) (j : Job) :
    (setJob s a j).straps = s.straps := rfl
@[simp] theorem setJob_resetLow (s : State) (a : Addr) (j : Job) :
    (setJob s a j).resetLow = s.resetLow := rfl
@[simp] theorem setJob_officeTx (s : State) (a : Addr) (j : Job) :
    (setJob s a j).officeTx = s.officeTx := rfl
@[simp] theorem setJob_floorTx (s : State) (a : Addr) (j : Job) :
    (setJob s a j).floorTx = s.floorTx := rfl
@[simp] theorem setJob_freeTick (s : State) (a : Addr) (j : Job) :
    (setJob s a j).freeTick = s.freeTick := rfl
@[simp] theorem setJob_pending (s : State) (a : Addr) (j : Job) :
    (setJob s a j).pending = s.pending := rfl

@[simp] theorem placePanel_accounts (s : State) (a : Addr) (p : PanelPayload) :
    (placePanel s a p).accounts = s.accounts := rfl
@[simp] theorem placePanel_cards (s : State) (a : Addr) (p : PanelPayload) :
    (placePanel s a p).cards = s.cards := rfl
@[simp] theorem placePanel_channels (s : State) (a : Addr) (p : PanelPayload) :
    (placePanel s a p).channels = s.channels := rfl
@[simp] theorem placePanel_waitQueue (s : State) (a : Addr) (p : PanelPayload) :
    (placePanel s a p).waitQueue = s.waitQueue := rfl
@[simp] theorem placePanel_plans (s : State) (a : Addr) (p : PanelPayload) :
    (placePanel s a p).plans = s.plans := rfl
@[simp] theorem placePanel_journal (s : State) (a : Addr) (p : PanelPayload) :
    (placePanel s a p).journal = s.journal := rfl
@[simp] theorem placePanel_reservations (s : State) (a : Addr) (p : PanelPayload) :
    (placePanel s a p).reservations = s.reservations := rfl
@[simp] theorem placePanel_nextSeq (s : State) (a : Addr) (p : PanelPayload) :
    (placePanel s a p).nextSeq = s.nextSeq := rfl
@[simp] theorem placePanel_meters (s : State) (a : Addr) (p : PanelPayload) :
    (placePanel s a p).meters = s.meters := rfl
@[simp] theorem placePanel_mode (s : State) (a : Addr) (p : PanelPayload) :
    (placePanel s a p).mode = s.mode := rfl
@[simp] theorem placePanel_freeVend (s : State) (a : Addr) (p : PanelPayload) :
    (placePanel s a p).freeVend = s.freeVend := rfl
@[simp] theorem placePanel_adminEnable (s : State) (a : Addr) (p : PanelPayload) :
    (placePanel s a p).adminEnable = s.adminEnable := rfl
@[simp] theorem placePanel_stations (s : State) (a : Addr) (p : PanelPayload) :
    (placePanel s a p).stations = s.stations := rfl
@[simp] theorem placePanel_timers (s : State) (a : Addr) (p : PanelPayload) :
    (placePanel s a p).timers = s.timers := rfl
@[simp] theorem placePanel_sweep (s : State) (a : Addr) (p : PanelPayload) :
    (placePanel s a p).sweep = s.sweep := rfl
@[simp] theorem placePanel_awaiting (s : State) (a : Addr) (p : PanelPayload) :
    (placePanel s a p).awaiting = s.awaiting := rfl
@[simp] theorem placePanel_roundPos (s : State) (a : Addr) (p : PanelPayload) :
    (placePanel s a p).roundPos = s.roundPos := rfl
@[simp] theorem placePanel_lastProbed (s : State) (a : Addr) (p : PanelPayload) :
    (placePanel s a p).lastProbed = s.lastProbed := rfl
@[simp] theorem placePanel_responses (s : State) (a : Addr) (p : PanelPayload) :
    (placePanel s a p).responses = s.responses := rfl
@[simp] theorem placePanel_notices (s : State) (a : Addr) (p : PanelPayload) :
    (placePanel s a p).notices = s.notices := rfl
@[simp] theorem placePanel_paused (s : State) (a : Addr) (p : PanelPayload) :
    (placePanel s a p).paused = s.paused := rfl
@[simp] theorem placePanel_window (s : State) (a : Addr) (p : PanelPayload) :
    (placePanel s a p).window = s.window := rfl
@[simp] theorem placePanel_rate (s : State) (a : Addr) (p : PanelPayload) :
    (placePanel s a p).rate = s.rate := rfl
@[simp] theorem placePanel_straps (s : State) (a : Addr) (p : PanelPayload) :
    (placePanel s a p).straps = s.straps := rfl
@[simp] theorem placePanel_resetLow (s : State) (a : Addr) (p : PanelPayload) :
    (placePanel s a p).resetLow = s.resetLow := rfl
@[simp] theorem placePanel_officeTx (s : State) (a : Addr) (p : PanelPayload) :
    (placePanel s a p).officeTx = s.officeTx := rfl
@[simp] theorem placePanel_floorTx (s : State) (a : Addr) (p : PanelPayload) :
    (placePanel s a p).floorTx = s.floorTx := rfl
@[simp] theorem placePanel_freeTick (s : State) (a : Addr) (p : PanelPayload) :
    (placePanel s a p).freeTick = s.freeTick := rfl
@[simp] theorem placePanel_pending (s : State) (a : Addr) (p : PanelPayload) :
    (placePanel s a p).pending = s.pending := rfl

@[simp] theorem writeRecord_journal (s : State) (b : RecordBody) :
    (writeRecord s b).journal = s.journal ++ [{ sequence := s.nextSeq, body := b }] := rfl
@[simp] theorem writeRecord_nextSeq (s : State) (b : RecordBody) :
    (writeRecord s b).nextSeq = nextSequence s.nextSeq := rfl

end Sys2Proof.Machine
end

