-- ==== Sys2Proof/Laws/Ops.lean ====
section
/-! SUPPORT. For each shared operation, once, what it can do: addresses, orders, station states and timers, notices,
messages, replies, channels, station events. -/

namespace Sys2Proof.Machine

/-! ### Addresses and orders -/

@[simp] theorem floorAddr_floorNumber (a : Addr) : floorAddr (floorNumber a) = some a := by
  have : 1 ≤ a.val + 1 ∧ a.val + 1 ≤ 16 := ⟨by omega, by omega⟩
  simp [floorAddr, floorNumber, this]

theorem floorAddr_eq_some {n : Nat} {a : Addr} : floorAddr n = some a ↔ n = floorNumber a := by
  constructor
  · intro h
    unfold floorAddr at h
    split at h
    · cases h; simp [floorNumber]; omega
    · cases h
  · rintro rfl; simp

theorem floorAddr_eq_none {n : Nat} : floorAddr n = none ↔ n = 0 ∨ 16 < n := by
  unfold floorAddr
  split <;> simp <;> omega

theorem mem_allAddrs (a : Addr) : a ∈ allAddrs := by revert a; decide

theorem allAddrs_nodup : allAddrs.Nodup := by decide

theorem mem_allChannels (c : ChannelNo) : c ∈ allChannels := by revert c; decide

theorem insertByRank_perm (k : Nat) (a : Addr) (l : List Addr) : (insertByRank k a l).Perm (a :: l) := by
  induction l with
  | nil => exact .refl _
  | cons b q ih =>
    unfold insertByRank
    split
    · exact .refl _
    · exact (ih.cons b).trans (.swap a b q)

theorem sortByRank_perm (k : Nat) (l : List Addr) : (sortByRank k l).Perm l := by
  induction l with
  | nil => exact .refl _
  | cons a q ih => exact (insertByRank_perm k a _).trans (ih.cons a)

theorem freeOrder_perm (s : State) (as : List Addr) : (freeOrder s as).Perm as := by
  unfold freeOrder
  split
  · exact .refl _
  · exact sortByRank_perm _ _

@[simp] theorem mem_freeOrder (s : State) (as : List Addr) (a : Addr) : a ∈ freeOrder s as ↔ a ∈ as :=
  (freeOrder_perm s as).mem_iff

theorem tickOrder_eq (s : State) (as : List Addr) : ∃ k, tickOrder s as = { s with freeTick := k } := by
  unfold tickOrder
  split
  · exact ⟨_, rfl⟩
  · exact ⟨_, rfl⟩

/-! ### Replies -/

theorem whenRunning_eq (s : State) (f : State → State) (h : s.resetLow = false) :
    whenRunning s f = .next (f s) := by simp [whenRunning, h]

theorem whenRunning_low (s : State) (f : State → State) (h : s.resetLow = true) :
    whenRunning s f = .next s := by simp [whenRunning, h]

theorem request_eq (k : OfficeKind) (req : Nat) (s : State) (f : State → Reply) (h : s.resetLow = false) :
    request k req s f =
      .next (respond (f { s with window := none }).state k.code req (f { s with window := none }).status
        (f { s with window := none }).figures) := by simp [request, whenRunning, h]

@[simp] theorem refuse_state (st : Status) (s : State) : (refuse st s).state = s := rfl
@[simp] theorem refuse_status (st : Status) (s : State) : (refuse st s).status = st := rfl
@[simp] theorem refuse_figures (st : Status) (s : State) : (refuse st s).figures = .none := rfl
@[simp] theorem accept_state (f : Figures) (s : State) : (accept f s).state = s := rfl
@[simp] theorem accept_status (f : Figures) (s : State) : (accept f s).status = .ok := rfl
@[simp] theorem accept_figures (f : Figures) (s : State) : (accept f s).figures = f := rfl

@[simp] theorem atAddr_floorNumber (a : Addr) (s : State) (f : Addr → State) :
    atAddr (floorNumber a) s f = f a := by simp [atAddr]

/-! ### Station states and timers -/

theorem enter_stations (s : State) (a : Addr) (st : StationState) :
    (enter s a st).stations = s.stations.set a { s.stations.get a with state := st, timer := none } := rfl

theorem enter_presence (s : State) (a : Addr) (st : StationState) :
    (enter s a st).presence = s.presence.set a { s.presence.get a with line := lineHigh st } := rfl

theorem startTimer_stations (s : State) (a : Addr) (k : TimerKind) :
    (startTimer s a k).stations =
      s.stations.set a { s.stations.get a with timer := some ⟨k, settingOf s.timers k⟩ } := rfl

theorem stopTimer_stations (s : State) (a : Addr) :
    (stopTimer s a).stations = s.stations.set a { s.stations.get a with timer := none } := rfl

/-- The rest state is taken by a station at rest and by no other. -/
theorem takeRest_cases (s : State) (a : Addr) :
    (atRest (s.stations.get a).state = true ∧ takeRest s a = enter s a (restState s a))
      ∨ (atRest (s.stations.get a).state = false ∧ takeRest s a = s) := by
  unfold takeRest
  cases h : atRest (s.stations.get a).state <;> simp

/-- The idle timer is refreshed in ACTIVE only. -/
theorem refreshIdle_cases (s : State) (a : Addr) :
    (idleConditions s a = true ∧ refreshIdle s a = startTimer s a .idle)
      ∨ (idleConditions s a = false ∧ (s.stations.get a).state = .active ∧ refreshIdle s a = stopTimer s a)
      ∨ (idleConditions s a = false ∧ (s.stations.get a).state ≠ .active ∧ refreshIdle s a = s) := by
  unfold refreshIdle
  cases h : idleConditions s a
  · by_cases g : (s.stations.get a).state = .active <;> simp [g]
  · simp

/-- Refreshing the idle timer changes the timer of one station and nothing else. -/
theorem refreshIdle_eq (s : State) (a : Addr) :
    ∃ t, refreshIdle s a = setStation s a { s.stations.get a with timer := t } := by
  rcases refreshIdle_cases s a with ⟨_, h⟩ | ⟨_, _, h⟩ | ⟨_, _, h⟩
  · exact ⟨_, h⟩
  · exact ⟨_, h⟩
  · refine ⟨(s.stations.get a).timer, ?_⟩
    rw [h, setStation, show ({ s.stations.get a with timer := (s.stations.get a).timer } : Station)
      = s.stations.get a from rfl, Table.set_get]

/-! ### Notices -/

theorem sameSubject_symm (x y : NoticeEntry) : sameSubject x y = sameSubject y x := by
  cases x <;> cases y <;> simp [sameSubject, Bool.beq_comm]

theorem mem_placeIn {n x : NoticeEntry} {l : List NoticeEntry} (h : x ∈ placeIn n l) : x = n ∨ x ∈ l := by
  induction l with
  | nil => simpa [placeIn] using h
  | cons e q ih =>
    unfold placeIn at h
    split at h
    · rcases List.mem_cons.1 h with h | h
      · exact .inl h
      · exact .inr (.tail _ h)
    · rcases List.mem_cons.1 h with h | h
      · exact .inr (by simp [h])
      · rcases ih h with h | h
        · exact .inl h
        · exact .inr (.tail _ h)

/-- Only the list of notices changes at a JOURNAL_LEVEL notice. -/
theorem noticeLevel_eq (s : State) : ∃ l, noticeLevel s = { s with notices := l } := by
  unfold noticeLevel
  split
  · exact ⟨_, rfl⟩
  · exact ⟨s.notices, rfl⟩

/-! ### Station messages -/

/-- Forgetting a sent message touches only the reply awaited. -/
theorem forgetSent_cases (s : State) (a : Addr) (m : Message) :
    (s.awaiting = .poll a (some m) ∧ forgetSent s a m = { s with awaiting := .poll a none })
      ∨ (s.awaiting ≠ .poll a (some m) ∧ forgetSent s a m = s) := by
  unfold forgetSent
  by_cases h : s.awaiting = .poll a (some m)
  · exact .inl ⟨h, by simp [h]⟩
  · exact .inr ⟨h, by simp [h]⟩

/-- Forgetting a sent message keeps everything but the reply awaited. -/
theorem forgetSent_eq (s : State) (a : Addr) (m : Message) :
    ∃ w, forgetSent s a m = { s with awaiting := w } := by
  rcases forgetSent_cases s a m with ⟨_, h⟩ | ⟨_, h⟩
  · exact ⟨_, h⟩
  · exact ⟨s.awaiting, h⟩

theorem placeCardResult_eq (s : State) (a : Addr) (r : CardResult) :
    ∃ w, placeCardResult s a r =
      { s with awaiting := w, presence := s.presence.set a { s.presence.get a with cardResult := some r } } := by
  obtain ⟨w, h⟩ := forgetSent_eq s a .cardResult
  exact ⟨w, by simp [placeCardResult, h, setPresence]⟩

theorem placeResume_eq (s : State) (a : Addr) :
    ∃ w, placeResume s a =
      { s with awaiting := w, presence := s.presence.set a { s.presence.get a with resume := true } } := by
  obtain ⟨w, h⟩ := forgetSent_eq s a .resume
  exact ⟨w, by simp [placeResume, h, setPresence]⟩

theorem withdrawResume_eq (s : State) (a : Addr) :
    ∃ w, withdrawResume s a =
      { s with awaiting := w, presence := s.presence.set a { s.presence.get a with resume := false } } := by
  obtain ⟨w, h⟩ := forgetSent_eq s a .resume
  exact ⟨w, by simp [withdrawResume, h, setPresence]⟩

theorem placeJobClosed_eq (s : State) (a : Addr) (j : JobClosed) :
    ∃ w, placeJobClosed s a j =
      { s with awaiting := w
               presence := s.presence.set a { s.presence.get a with jobClosed := some j, cardResult := none } } := by
  obtain ⟨w, h⟩ := forgetSent_eq s a .jobClosed
  obtain ⟨v, g⟩ := forgetSent_eq { s with awaiting := w } a .cardResult
  exact ⟨v, by simp only [placeJobClosed, h, g, setPresence]⟩

/-! ### Channels -/

/-- The channel found for a station is BUSY with it. -/
theorem channelOf_some {s : State} {a : Addr} {c : ChannelNo} (h : channelOf s a = some c) :
    ∃ r, (s.channels.get c).busy = some r ∧ r.station = a := by
  have := List.find?_some h
  revert this
  cases (s.channels.get c).busy with
  | none => simp
  | some r => intro g; exact ⟨r, rfl, by simpa using g⟩

/-- A station for which no channel is found holds none. -/
theorem channelOf_none {s : State} {a : Addr} (h : channelOf s a = none) (c : ChannelNo) (r : AuthRecord)
    (hc : (s.channels.get c).busy = some r) : r.station ≠ a := by
  have := List.find?_eq_none.1 h c (mem_allChannels c)
  simpa [hc] using this

/-- A tag matches exactly a BUSY channel that holds its generation (R28). -/
theorem matchTag_eq_some {s : State} {t : Tag} {r : AuthRecord} :
    matchTag s t = some r ↔
      (s.channels.get t.channel).busy = some r ∧ (s.channels.get t.channel).generation = t.generation := by
  unfold matchTag
  split <;> simp_all

/-! ### Station events -/

/-- A station is busy exactly when it is not at rest (R43, R149). -/
theorem isBusy_eq (st : StationState) : isBusy st = !atRest st := by cases st <;> rfl

/-- With no sweep asked for, an EVENT is repeated or taken (R154). -/
theorem takeEvent_idle (toggle : Bool) (kind : EventKind) (ju : State → Addr → EventResult) (a : Addr) (lost : Bool)
    (s : State) (h : (returnIf lost s a).sweep = .idle) :
    takeEvent toggle kind ju a lost s =
      if ((returnIf lost s a).presence.get a).toggle = some toggle then repeatAnswer (returnIf lost s a) a
      else
        let r := ju (returnIf lost s a) a
        sendAnswer (refreshIdle r.state a) a { toggle, kind, outcome := r.outcome, attached := r.attached } := by
  simp [takeEvent, h]

/-- With a sweep asked for, an EVENT that starts no job and no authorization is repeated or taken (R149, R154). -/
theorem takeEvent_calm (toggle : Bool) (kind : EventKind) (ju : State → Addr → EventResult) (a : Addr) (lost : Bool)
    (s : State) (h : startsWork (returnIf lost s a) (ju (returnIf lost s a) a).state a = false) :
    takeEvent toggle kind ju a lost s =
      if ((returnIf lost s a).presence.get a).toggle = some toggle then repeatAnswer (returnIf lost s a) a
      else
        let r := ju (returnIf lost s a) a
        sendAnswer (refreshIdle r.state a) a { toggle, kind, outcome := r.outcome, attached := r.attached } := by
  simp [takeEvent, h]

end Sys2Proof.Machine
end

