-- ==== Sys2Proof/Tests/Slice0.lean ====
section
/-! SUPPORT. Tests: well-formedness, frames written out by hand, the spec's worked figures, one step of each kind of
command, and for each statement with hypotheses a state and operands that meet them. -/

namespace Sys2Proof.Tests

open Sys2Proof Sys2Proof.Machine

set_option Elab.async false

/-! ### Small states -/

/-- The state after one command. -/
def after (c : Instr) (s : State) : State :=
  match exec c s with
  | .next t => t
  | .fault _ => s
  | .refused _ => s

def caps : Capabilities := ⟨true, true, true, true, true, true⟩

/-- Plan 1 of the tests: breaks 2, 4, 4, S-MONO at 800, 700, 600, 500, m 25, h 300. -/
def tariff (captures : Nat) : Plan :=
  { loaded := true, b1 := 2, b2 := 4, b3 := 4, m := 25, h := 300, captures
    rates := ⟨⟨800, 700, 600, 500⟩, ⟨3500, 3200, 3000, 2800⟩, ⟨0, 0, 0, 0⟩, ⟨0, 0, 0, 0⟩, ⟨0, 0, 0, 0⟩, ⟨0, 0, 0, 0⟩⟩ }

/-- Account 7 of the tests, with the rights MONO, COLOUR, AFTER_HOURS and SERVICE. -/
def payer (holds jobs : Nat) : Account :=
  { status := .openAccount, balance := 1000, creditLimit := 500, holdsTotal := holds, openJobs := jobs, plan := 1
    discount := 100, rights := ⟨true, true, false, true, true, false⟩, changed := false, guestTag := none }

/-- The card of the tests: 263 stands in bucket 7. -/
def holder : CardEntry := { card := 263, account := 7, ceiling := none, gated := false }

/-- OPEN mode; address 3 PRESENT and IDLE; plan 1, account 7 and card 263 written; nothing awaited. -/
def shop : State :=
  { State.reset with
    sweep := .idle, awaiting := .none, mode := .openShop
    plans := State.reset.plans.set 1 (tariff 0)
    accounts := State.reset.accounts.set 7 (payer 0 0)
    cards := State.reset.cards.set 7 ((Table.fill 4 none).set 0 (some holder))
    adminEnable := State.reset.adminEnable.set 2 true
    stations := State.reset.stations.set 2 { Station.reset with state := .idle }
    presence := State.reset.presence.set 2
      { PresenceRecord.reset with state := .present, token := some 9, capabilities := caps } }

/-- The shop with a state of station 3, and the reply to its POLL awaited. -/
def polled (r : Station) : State :=
  { shop with
    awaiting := .poll 2 none
    stations := shop.stations.set 2 r
    presence := shop.presence.set 2 { shop.presence.get 2 with line := lineHigh r.state } }

/-- Station 3 without a job. -/
def resting (state : StationState) : State := polled { Station.reset with state }

/-- A job on account 7: one S-MONO sheet delivered at 800, sheet 2 in flight at 800. -/
def job : Job :=
  { account := 7, guest := false, plan := 1, discount := 100, rights := (payer 0 0).rights, service := false
    ceiling := none, hold := 300, total := 800, charged := ⟨1, 0, 0, 0, 0, 0⟩, duplicates := 0, freeVend := 0
    writtenOff := 0, confirmed := 1, highest := 2, nextFeed := 3
    inFlight := [⟨2, ⟨.sMono, .priced⟩, none, 800, some 2, false⟩] }

/-- The same job with an empty list: sheet 2 is owed. -/
def owing : Job := { job with inFlight := [] }

/-- The same job with its two sheets delivered. -/
def drained : Job := { job with inFlight := [], confirmed := 2, total := 1600, charged := ⟨2, 0, 0, 0, 0, 0⟩ }

/-- Station 3 with a job of account 7 and a timer. -/
def working (state : StationState) (k : TimerKind) (j : Job) : State :=
  { polled { Station.reset with
      state, job := some j, timer := some ⟨k, 30⟩
      pendingEnd := if state = .closing then some .finished else none
      wanted := if state = .held then some 310 else none
      engine := { EngineStatus.reset with flags := ⟨false, true, false, false⟩ } } with
    accounts := shop.accounts.set 7 (payer j.hold 1)
    plans := shop.plans.set 1 (tariff 1)
    reservations := 1 }

/-- The tag of the authorization of the tests. -/
def tag : Tag := ⟨1, 5⟩

/-- The authorization record of channel 1. -/
def record : AuthRecord := { station := 2, card := 999, lookup := none, requested := none }

/-- Station 3 in AUTHORIZING on channel 1 with generation 5, for card 999 that is not mapped. -/
def asking : State :=
  { polled { Station.reset with
      state := .authorizing, authCard := some ⟨999, none⟩, timer := some ⟨.authorization, 15⟩ } with
    channels := shop.channels.set 1 ⟨5, some record⟩ }

/-- Every channel BUSY, station 3 on channel 1 and station 5 at the head of the wait queue. -/
def queued : State :=
  let busy : Station :=
    { Station.reset with
      state := .authorizing, authCard := some ⟨999, none⟩, timer := some ⟨.authorization, 15⟩ }
  { asking with
    channels := ((((shop.channels.set 1 ⟨5, some record⟩).set 0 ⟨1, some { record with station := 0 }⟩).set 2
      ⟨1, some { record with station := 5 }⟩).set 3 ⟨1, some { record with station := 6 }⟩)
    waitQueue := [4]
    stations := ((((asking.stations.set 0 busy).set 5 busy).set 6 busy).set 4 busy) }

/-- A journal of two records, 65,535 and 1. -/
def written : State :=
  { shop with
    journal := [⟨65535, .adjust ⟨7, 5, 5, 0, 1000⟩⟩, ⟨1, .adjust ⟨7, 6, 6, 0, 1006⟩⟩], nextSeq := 2 }

/-! ### The laws on small states -/

theorem cardLaw_of (s : State)
    (h : ∀ (b : BucketNo) (w : WayNo), ∀ e ∈ cardAt s b w,
      e.card % 65521 % 256 = b.val ∧ 1 ≤ e.card ∧ e.card ≤ 9999999999999999999 ∧ e.account.val ≤ 479)
    (g : ∀ (b : BucketNo) (w v : WayNo), ∀ e ∈ cardAt s b w, ∀ f ∈ cardAt s b v, e.card = f.card → w = v) :
    CardLaw s :=
  ⟨fun b w e he => h b w e he, fun b w v e f he hf => g b w v e he f hf⟩

theorem cardLaw_shop : CardLaw shop := cardLaw_of _ (by decide +kernel) (by decide +kernel)

theorem cardLaw_of_cards {s t : State} (h : t.cards = s.cards) (g : CardLaw s) : CardLaw t := by
  unfold CardLaw cardAt at *
  rw [h]
  exact g

theorem stationLaw_of (s : State)
    (h1 : ∀ a : Addr, (jobAt s a).isSome = hasOpenJob (s.stations.get a).state)
    (h2 : ∀ a : Addr, (s.stations.get a).authCard.isSome = ((s.stations.get a).state == .authorizing))
    (h3 : ∀ a : Addr, (s.stations.get a).state = .authorizing ↔
      (∃ c : ChannelNo, channelStation s c = some a) ∨ a ∈ s.waitQueue)
    (h4 : ∀ a : Addr, (∃ c : ChannelNo, channelStation s c = some a) → a ∉ s.waitQueue)
    (h5 : ∀ c d : ChannelNo, channelStation s c ≠ none → channelStation s c = channelStation s d → c = d)
    (h6 : s.waitQueue.Nodup)
    (h7 : s.waitQueue ≠ [] → ∀ c : ChannelNo, channelStation s c ≠ none) : StationLaw s :=
  ⟨h1, h2, h3, h4, h5, h6, h7⟩

/-- Station 3 ACTIVE with the job of the tests. -/
def work : State := working .active .idle job

theorem stationLaw_working : StationLaw work :=
  stationLaw_of _ (by decide +kernel) (by decide +kernel) (by decide +kernel) (by decide +kernel)
    (by decide +kernel) (by decide +kernel) (by decide +kernel)

theorem stationLaw_queued : StationLaw queued :=
  stationLaw_of _ (by decide +kernel) (by decide +kernel) (by decide +kernel) (by decide +kernel)
    (by decide +kernel) (by decide +kernel) (by decide +kernel)

theorem journalLaw_working : JournalLaw work :=
  ⟨stationLaw_working, by decide +kernel, by decide +kernel⟩

theorem holdLaw_working : HoldLaw work := by
  have h : ∀ a : Addr, ∀ j ∈ jobAt work a,
      ceil100 (j.total + (j.inFlight.map InFlight.price).sum) ≤ j.hold := by decide +kernel
  exact fun a j hj => h a j hj

theorem account_working (n : AccountNo) : work.accounts.get n =
    if n = 7 then payer 300 1 else Account.reset (if n.val < 480 then .unloaded else .free) := by
  have h : work.accounts = (State.reset.accounts.set 7 (payer 0 0)).set 7 (payer 300 1) := rfl
  rw [h, Table.get_set, Table.get_set]
  by_cases g : n = 7
  · simp [g]
  · rw [if_neg g, if_neg g, if_neg g]
    unfold State.reset Table.append Table.fill Table.get
    simp only [List.getElem_append, List.length_replicate, List.getElem_replicate]
    split <;> simp_all

theorem jobsOn_working (n : AccountNo) : jobsOn work n = if n = 7 then [job] else [] := by
  have h : openJobs work = [job] := by decide +kernel
  unfold jobsOn
  rw [h]
  by_cases g : n = 7
  · subst g
    decide
  · have e : ((7 : AccountNo) == n) = false := by simpa using Ne.symm g
    simp [g, job, e]

theorem accountLaw_working : AccountLaw work where
  stations := stationLaw_working
  cards := cardLaw_of_cards (s := shop) rfl cardLaw_shop
  holds n := by
    rw [account_working, jobsOn_working]
    split <;> rfl
  count n := by
    rw [account_working, jobsOn_working]
    split <;> rfl
  regular n h := by
    rw [account_working]
    by_cases g : n = 7
    · rw [if_pos g]
      exact .inr (.inl rfl)
    · rw [if_neg g, if_pos h]
      exact .inl rfl
  slot n h := by
    rw [account_working, if_neg (by rintro rfl; exact absurd h (by decide)), if_neg (by omega)]
    exact .inl rfl
  idle n h := by
    rw [account_working] at h
    rw [jobsOn_working]
    split
    · subst_vars
      exact absurd h (by decide)
    · rfl
  guest n h := by
    rw [account_working] at h
    split at h
    · exact absurd h (by decide)
    · split at h <;> exact absurd h (by decide)
  flag := by decide +kernel
  captures := by decide +kernel
  loaded := by decide +kernel
  least := by decide +kernel
  terms := by decide +kernel

theorem pathLaw_job : PathLaw false job := by
  constructor <;> decide

theorem sheetLaw_working : SheetLaw work := by
  have h : ∀ a : Addr, ∀ j ∈ jobAt work a,
      j = job ∧ inJam (work.stations.get a) = false := by decide +kernel
  intro a j hj
  obtain ⟨rfl, e⟩ := h a j hj
  rw [e]
  exact pathLaw_job

theorem rangeLaw_working_meters : ∀ a : Addr, (work.meters.get a).all (fun v => decide (v ≤ 99999999)) = true := by decide +kernel

theorem rangeLaw_working_timers : 5 ≤ work.timers.authorization ∧ work.timers.authorization ≤ 60
    ∧ 15 ≤ work.timers.idle ∧ work.timers.idle ≤ 600 ∧ 30 ≤ work.timers.holdWait ∧ work.timers.holdWait ≤ 600
    ∧ 60 ≤ work.timers.jam ∧ work.timers.jam ≤ 3600 ∧ 10 ≤ work.timers.drain ∧ work.timers.drain ≤ 120
    ∧ 2 ≤ work.timers.reconnectGrace ∧ work.timers.reconnectGrace ≤ 60 := by decide +kernel

theorem rangeLaw_working_misses : ∀ a : Addr, (work.presence.get a).misses ≤ 3 := by decide +kernel

theorem rangeLaw_working_panel : ∀ a : Addr, (work.presence.get a).panel.length ≤ 2 := by decide +kernel

theorem rangeLaw_working : RangeLaw work where
  sheets := sheetLaw_working
  balance n := by
    rw [account_working]
    split
    · decide
    · simp [Account.reset]
  credit n := by
    rw [account_working]
    split
    · decide
    · simp [Account.reset]
  discount n := by
    rw [account_working]
    split
    · decide
    · simp [Account.reset]
  meters := rangeLaw_working_meters
  timers := rangeLaw_working_timers
  misses := rangeLaw_working_misses
  panel := rangeLaw_working_panel

theorem floorLaw_working : FloorLaw work where
  stations := stationLaw_working
  rest := by decide +kernel
  present := by decide +kernel
  lost := by decide +kernel
  missing := by decide +kernel
  detached := by decide +kernel
  sweep := by
    intro h
    rcases h with h | h
    · exact absurd rfl h
    · exact absurd h (by decide)
  probe := by decide +kernel
  loss := by decide +kernel

theorem sequenceLaw_written : SequenceLaw written := by
  refine ⟨by decide, by decide, by decide, ?_⟩
  have : written.journal.map JournalRecord.sequence ++ [written.nextSeq] = [65535, 1, 2] := rfl
  rw [this]
  simp [seqFollows]
/-! ### Well-formedness: an operand one beyond its field, for every check -/

def plainPlan : PlanPayload :=
  { number := 0, loaded := 0, b1 := 0, b2 := 0, b3 := 0, m := 0, h := 0
    rates := ⟨⟨0, 0, 0, 0⟩, ⟨0, 0, 0, 0⟩, ⟨0, 0, 0, 0⟩, ⟨0, 0, 0, 0⟩, ⟨0, 0, 0, 0⟩, ⟨0, 0, 0, 0⟩⟩ }

/-- Request numbers beyond one byte. -/
def wideRequests : List Instr :=
  [.identify 256,
   .readStatus 256,
   .changedAccounts 256,
   .readJournal 256,
   .rescanFloor 256,
   .pause 256,
   .unpause 256,
   .resetFull 256,
   .resetFloor 256,
   .readStation 256 1,
   .writeAccount 256 ⟨0, 1, 0, 0, 0, 0, 0⟩,
   .setAccountLimits 256 0 none none none none,
   .setAccountStatus 256 0 0,
   .readAccount 256 0,
   .adjustAccount 256 0 0 0,
   .writeCard 256 ⟨1, 0, 0, 0⟩,
   .removeCard 256 1,
   .readCard 256 1,
   .writePlan 256 plainPlan,
   .readPlan 256 0,
   .approveAccount 256 0 0 none,
   .approveGuest 256 0 1 0 0,
   .decline 256 0 0,
   .endJob 256 1,
   .setTimers 256 ⟨none, none, none, none, none, none⟩,
   .acknowledgeJournal 256 1,
   .readMeters 256 1,
   .presetMeters 256 1 ⟨⟨none, none, none, none, none, none⟩, none, none, none, none⟩,
   .setMode 256 0,
   .setFreeVend 256 0,
   .setStationEnable 256 1 0,
   .openWindow 256 0 0 1,
   .windowData 256 0 (.other []),
   .panelText 256 1 ⟨0, List.replicate 20 32, List.replicate 20 32⟩,
   .badRequestFrame 0 99 256]

theorem test_wf_refuses_wideRequests : wideRequests.all (fun i => !i.wf) = true := by decide

/-- Fields of office requests beyond their width. -/
def wideFields : List Instr :=
  [.readStation 0 256,
   .setAccountLimits 0 65536 none none none none,
   .setAccountLimits 0 0 (some 4294967296) none none none,
   .setAccountLimits 0 0 none (some 256) none none,
   .setAccountLimits 0 0 none none (some 65536) none,
   .setAccountStatus 0 65536 0,
   .setAccountStatus 0 0 256,
   .readAccount 0 65536,
   .adjustAccount 0 65536 0 0,
   .adjustAccount 0 0 2147483648 0,
   .adjustAccount 0 0 (-2147483649) 0,
   .adjustAccount 0 0 0 256,
   .removeCard 0 18446744073709551616,
   .readCard 0 18446744073709551616,
   .readPlan 0 256,
   .approveAccount 0 65536 0 none,
   .approveAccount 0 0 65536 none,
   .approveAccount 0 0 0 (some 16777216),
   .approveGuest 0 65536 1 0 0,
   .approveGuest 0 0 16777216 0 0,
   .approveGuest 0 0 1 256 0,
   .decline 0 65536 0,
   .decline 0 0 256,
   .endJob 0 256,
   .acknowledgeJournal 0 65536,
   .readMeters 0 256,
   .setMode 0 256,
   .setFreeVend 0 256,
   .setStationEnable 0 256 0,
   .setStationEnable 0 1 256,
   .openWindow 0 256 0 1,
   .openWindow 0 0 65536 1,
   .openWindow 0 0 0 65536,
   .windowData 0 65536 (.other []),
   .badRequestFrame 256 99 0,
   .badRequestFrame 0 256 0]

theorem test_wf_refuses_wideFields : wideFields.all (fun i => !i.wf) = true := by decide

/-- Records with a field beyond its width, or of another layout than they claim. -/
def wideRecords : List Instr :=
  [.writeAccount 0 ⟨65536, 1, 0, 0, 0, 0, 0⟩,
   .writeAccount 0 ⟨0, 256, 0, 0, 0, 0, 0⟩,
   .writeAccount 0 ⟨0, 1, 2147483648, 0, 0, 0, 0⟩,
   .writeAccount 0 ⟨0, 1, 0, 4294967296, 0, 0, 0⟩,
   .writeAccount 0 ⟨0, 1, 0, 0, 256, 0, 0⟩,
   .writeAccount 0 ⟨0, 1, 0, 0, 0, 65536, 0⟩,
   .writeCard 0 ⟨18446744073709551616, 0, 0, 0⟩,
   .writeCard 0 ⟨1, 65536, 0, 0⟩,
   .writeCard 0 ⟨1, 0, 16777216, 0⟩,
   .writeCard 0 ⟨1, 0, 0, 256⟩,
   .writePlan 0 { plainPlan with number := 256 },
   .writePlan 0 { plainPlan with loaded := 256 },
   .writePlan 0 { plainPlan with b1 := 65536 },
   .writePlan 0 { plainPlan with b2 := 65536 },
   .writePlan 0 { plainPlan with b3 := 65536 },
   .writePlan 0 { plainPlan with m := 65536 },
   .writePlan 0 { plainPlan with h := 16777216 },
   .writePlan 0 { plainPlan with rates := { plainPlan.rates with sMono := ⟨65536, 0, 0, 0⟩ } },
   .writePlan 0 { plainPlan with rates := { plainPlan.rates with sColour := ⟨0, 65536, 0, 0⟩ } },
   .writePlan 0 { plainPlan with rates := { plainPlan.rates with sFull := ⟨0, 0, 65536, 0⟩ } },
   .writePlan 0 { plainPlan with rates := { plainPlan.rates with lMono := ⟨0, 0, 0, 65536⟩ } },
   .writePlan 0 { plainPlan with rates := { plainPlan.rates with lColour := ⟨65536, 0, 0, 0⟩ } },
   .writePlan 0 { plainPlan with rates := { plainPlan.rates with lFull := ⟨0, 65536, 0, 0⟩ } },
   .windowData 0 0 (.account ⟨65536, 1, 0, 0, 0, 0, 0⟩),
   .windowData 0 0 (.card ⟨1, 65536, 0, 0⟩),
   .windowData 0 0 (.plan { plainPlan with b1 := 65536 }),
   .windowData 0 0 (.other (List.replicate 14 0)),
   .windowData 0 0 (.other (List.replicate 15 0)),
   .windowData 0 0 (.other (List.replicate 61 0)),
   .windowData 0 0 (.short [0, 0]),
   .windowData 0 1 (.short [0])]

theorem test_wf_refuses_wideRecords : wideRecords.all (fun i => !i.wf) = true := by decide

theorem test_wf_refuses_long_window_record : (Instr.windowData 0 0 (.other (List.replicate 1023 0))).wf = false := by
  decide +kernel

/-- Timer values and meter values beyond their width. -/
def wideValues : List Instr :=
  [.setTimers 0 ⟨some 65536, none, none, none, none, none⟩,
   .setTimers 0 ⟨none, some 65536, none, none, none, none⟩,
   .setTimers 0 ⟨none, none, some 65536, none, none, none⟩,
   .setTimers 0 ⟨none, none, none, some 65536, none, none⟩,
   .setTimers 0 ⟨none, none, none, none, some 65536, none⟩,
   .setTimers 0 ⟨none, none, none, none, none, some 65536⟩,
   .presetMeters 0 1 ⟨⟨some 4294967296, none, none, none, none, none⟩, none, none, none, none⟩,
   .presetMeters 0 1 ⟨⟨none, some 4294967296, none, none, none, none⟩, none, none, none, none⟩,
   .presetMeters 0 1 ⟨⟨none, none, some 4294967296, none, none, none⟩, none, none, none, none⟩,
   .presetMeters 0 1 ⟨⟨none, none, none, some 4294967296, none, none⟩, none, none, none, none⟩,
   .presetMeters 0 1 ⟨⟨none, none, none, none, some 4294967296, none⟩, none, none, none, none⟩,
   .presetMeters 0 1 ⟨⟨none, none, none, none, none, some 4294967296⟩, none, none, none, none⟩,
   .presetMeters 0 1 ⟨⟨none, none, none, none, none, none⟩, some 4294967296, none, none, none⟩,
   .presetMeters 0 1 ⟨⟨none, none, none, none, none, none⟩, none, some 4294967296, none, none⟩,
   .presetMeters 0 1 ⟨⟨none, none, none, none, none, none⟩, none, none, some 4294967296, none⟩,
   .presetMeters 0 1 ⟨⟨none, none, none, none, none, none⟩, none, none, none, some 4294967296⟩,
   .presetMeters 0 256 ⟨⟨none, none, none, none, none, none⟩, none, none, none, none⟩]

theorem test_wf_refuses_wideValues : wideValues.all (fun i => !i.wf) = true := by decide

/-- Panel texts with another destination, time or line length. -/
def wrongTexts : List Instr :=
  [.panelText 0 0 ⟨0, List.replicate 20 32, List.replicate 20 32⟩,
   .panelText 0 17 ⟨0, List.replicate 20 32, List.replicate 20 32⟩,
   .panelText 0 254 ⟨0, List.replicate 20 32, List.replicate 20 32⟩,
   .panelText 0 1 ⟨256, List.replicate 20 32, List.replicate 20 32⟩,
   .panelText 0 1 ⟨0, List.replicate 19 32, List.replicate 20 32⟩,
   .panelText 0 1 ⟨0, List.replicate 20 32, List.replicate 21 32⟩]

theorem test_wf_refuses_wrongTexts : wrongTexts.all (fun i => !i.wf) = true := by decide

/-- Floor addresses beyond their byte or outside 1 to 16, and a card number beyond its field. -/
def wrongAddresses : List Instr :=
  [.sweepReply (.hello 256 85 0 ⟨true, true, true, true, true, true⟩),
   .probeReply (.hello 256 85 0 ⟨true, true, true, true, true, true⟩),
   .nothing 256,
   .hello 256 0 ⟨true, true, true, true, true, true⟩,
   .card 256 true 1,
   .card 1 true 18446744073709551616,
   .cancel 256 true,
   .feed 256 true 1 (.simplex .sMono),
   .delivered 256 true 1,
   .jam 256 true 0,
   .recovered 256 true 1,
   .status 256 true ⟨false, false, false, false⟩,
   .finish 256 true,
   .authorizationTimerExpiry 0,
   .authorizationTimerExpiry 17,
   .idleTimerExpiry 0,
   .idleTimerExpiry 17,
   .holdWaitTimerExpiry 0,
   .holdWaitTimerExpiry 17,
   .jamTimerExpiry 0,
   .jamTimerExpiry 17,
   .drainTimerExpiry 0,
   .drainTimerExpiry 17,
   .reconnectGraceExpiry 0,
   .reconnectGraceExpiry 17,
   .lossTimerExpiry 0,
   .lossTimerExpiry 17]

theorem test_wf_refuses_wrongAddresses : wrongAddresses.all (fun i => !i.wf) = true := by decide

theorem test_wf_accepts_boundaries :
    [Instr.setAccountLimits 255 65535 (some 4294967295) (some 255) (some 65535) (some 255),
     .adjustAccount 255 65535 2147483647 255, .adjustAccount 0 0 (-2147483648) 0,
     .approveGuest 255 65535 16777215 255 255, .panelText 255 255 ⟨255, List.replicate 20 32, List.replicate 20 0⟩,
     .card 255 false 18446744073709551615, .lossTimerExpiry 1, .lossTimerExpiry 16].all Instr.wf = true := by decide

/-! ### Words and frames

No row of the table has bits. The frames are written out by hand from R166 to R171, with their CRC computed outside
Lean from the polynomial and the initial value of R146 (the check value of the string 123456789 is 0x29B1). -/

theorem test_no_word_spells_a_command : decodeTableWord 8 0 = none ∧ decodeTableWord 64 123456789 = none := ⟨rfl, rfl⟩

theorem test_crc_check_value : crc16 [49, 50, 51, 52, 53, 54, 55, 56, 57] = 0x29B1 := by decide +kernel

theorem test_office_write_account :
    receiveOffice [0, 3, 0, 15, 9, 1, 44, 1, 255, 255, 251, 46, 0, 0, 19, 136, 2, 0, 150, 11, 34, 173] =
      .writeAccount 9 ⟨300, 1, -1234, 5000, 2, 150, 11⟩ := by
  decide +kernel

theorem test_office_set_account_limits :
    receiveOffice [0, 4, 0, 12, 1, 0, 7, 1, 0, 0, 3, 132, 0, 1, 0, 50, 0, 77, 43] =
      .setAccountLimits 1 7 (some 900) none (some 50) none := by
  decide +kernel

theorem test_office_approve_account :
    receiveOffice [0, 14, 0, 9, 2, 32, 5, 0, 0, 12, 1, 0, 9, 196, 184, 155] =
      .approveAccount 2 8197 12 (some 2500) := by
  decide +kernel

theorem test_office_approve_guest :
    receiveOffice [0, 14, 0, 8, 2, 0, 1, 1, 0, 15, 160, 3, 1, 101, 119] =
      .approveGuest 2 1 4000 3 1 := by
  decide +kernel

theorem test_office_decline :
    receiveOffice [0, 14, 0, 4, 2, 16, 0, 2, 77, 32, 237] =
      .decline 2 4096 77 := by
  decide +kernel

theorem test_office_set_mode :
    receiveOffice [0, 21, 0, 1, 255, 2, 61, 144] =
      .setMode 255 2 := by
  decide +kernel

theorem test_office_reset_kinds :
    receiveOffice [0, 29, 0, 1, 4, 0, 208, 196] =
      .resetFloor 4 := by
  decide +kernel

theorem test_office_reset_full :
    receiveOffice [0, 29, 0, 1, 4, 1, 192, 229] =
      .resetFull 4 := by
  decide +kernel

theorem test_office_acknowledge_journal :
    receiveOffice [0, 18, 0, 2, 6, 255, 255, 34, 205] =
      .acknowledgeJournal 6 65535 := by
  decide +kernel

theorem test_office_preset_meters :
    receiveOffice [0, 20, 0, 15, 3, 16, 0, 0, 0, 0, 0, 0, 0, 0, 0, 1, 0, 0, 0, 12, 182, 94] =
      .presetMeters 3 16 ⟨⟨none, none, none, none, none, none⟩, none, none, none, some 12⟩ := by
  decide +kernel

theorem test_office_window_without_an_index :
    receiveOffice [0, 28, 0, 1, 6, 10, 189, 189] =
      .windowData 6 0 (.short [10]) := by
  decide +kernel

theorem test_office_window_card :
    receiveOffice [0, 28, 0, 16, 6, 0, 10, 0, 0, 0, 0, 0, 1, 17, 113, 0, 9, 0, 0, 0, 1, 216, 201] =
      .windowData 6 10 (.card ⟨70001, 9, 0, 1⟩) := by
  decide +kernel

theorem test_office_panel_text :
    receiveOffice [255, 30, 0, 41, 1, 60, 65, 65, 65, 65, 65, 65, 65, 65, 65, 65, 65, 65, 65, 65, 65, 65, 65, 65, 65, 65, 32, 32, 32, 32, 32, 32, 32, 32, 32, 32, 32, 32, 32, 32, 32, 32, 32, 32, 32, 32, 215, 60] =
      .panelText 1 255 ⟨60, List.replicate 20 65, List.replicate 20 32⟩ := by
  decide +kernel

theorem test_office_unknown_kind :
    receiveOffice [0, 99, 0, 0, 8, 82, 10] =
      .badRequestFrame 0 99 8 := by
  decide +kernel

theorem test_office_destination_beyond_the_stations :
    receiveOffice [20, 30, 0, 0, 8, 164, 165] =
      .badRequestFrame 20 30 8 := by
  decide +kernel

theorem test_office_wrong_crc_is_discarded :
    receiveOffice [0, 21, 0, 1, 255, 2, 61, 145] =
      .discardedFrame := by
  decide +kernel

theorem test_office_wrong_length_is_discarded :
    receiveOffice [0, 21, 0, 2, 255, 2, 100, 192] =
      .discardedFrame := by
  decide +kernel

theorem test_floor_nothing : receiveFloor .poll [3, 8, 201, 84] =
    .nothing 3 := by
  decide +kernel

theorem test_floor_hello : receiveFloor .poll [3, 7, 0, 18, 52, 33, 119, 53] =
    .hello 3 4660 ⟨true, false, false, false, false, true⟩ := by
  decide +kernel

theorem test_floor_sweep_hello : receiveFloor .sweep [3, 7, 85, 18, 52, 33, 190, 75] =
    .sweepReply (.hello 3 85 4660 ⟨true, false, false, false, false, true⟩) := by
  decide +kernel

theorem test_floor_card : receiveFloor .poll [16, 9, 1, 0, 138, 199, 35, 4, 137, 231, 255, 255, 193, 136] =
    .card 16 true 9999999999999999999 := by
  decide +kernel

theorem test_floor_cancel : receiveFloor .poll [1, 9, 0, 1, 124, 196] =
    .cancel 1 false := by
  decide +kernel

theorem test_floor_feed_simplex : receiveFloor .poll [2, 9, 1, 2, 2, 1, 1, 2, 255, 201, 168] =
    .feed 2 true 513 (.simplex .sFull) := by
  decide +kernel

theorem test_floor_feed_duplex : receiveFloor .poll [2, 9, 1, 2, 0, 0, 2, 0, 5, 138, 248] =
    .feed 2 true 0 (.duplex .sMono .lFull) := by
  decide +kernel

theorem test_floor_delivered : receiveFloor .poll [2, 9, 0, 3, 1, 2, 103, 15] =
    .delivered 2 false 258 := by
  decide +kernel

theorem test_floor_jam : receiveFloor .poll [2, 9, 0, 4, 200, 50, 120] =
    .jam 2 false 200 := by
  decide +kernel

theorem test_floor_recovered : receiveFloor .poll [2, 9, 1, 5, 0, 7, 192, 143] =
    .recovered 2 true 7 := by
  decide +kernel

theorem test_floor_status : receiveFloor .poll [2, 9, 1, 6, 10, 154, 36] =
    .status 2 true ⟨false, true, false, true⟩ := by
  decide +kernel

theorem test_floor_finish : receiveFloor .poll [2, 9, 1, 7, 180, 239] =
    .finish 2 true := by
  decide +kernel

theorem test_floor_class_out_of_range_is_garbled : receiveFloor .poll [2, 9, 1, 2, 0, 1, 1, 6, 255, 65, 239] =
    .garbledReply := by
  decide +kernel

theorem test_floor_event_in_a_sweep_is_no_hello : receiveFloor .sweep [2, 9, 1, 7, 180, 239] =
    .sweepReply .notHello := by
  decide +kernel

theorem test_sent_probe : floorFrameBytes (.probe 0 85) = [1, 0, 85, 241, 252] := by decide +kernel

theorem test_sent_card_result : floorParts (.cardResult 2 (.accepted 4000)) =
    (2, 3, [0, 255, Config.unusedByte 2, 0, 15, 160]) := rfl

theorem test_sent_office_decline : floorParts (.cardResult 2 (.declined (.office 7))) =
    (2, 3, [1, 9, 7, Config.unusedByte 3, Config.unusedByte 4, Config.unusedByte 5]) := rfl

theorem test_sent_answer :
    floorFrameBytes (.answer 2 ⟨true, .feed, .granted 3 800, .none⟩) =
      [3, 2, 1, 2, 0, 255, 0, 0, 0, 3, 0, 0, 3, 32, 0, 228, 255] := by
  decide +kernel

theorem test_sent_response : officeSentBytes (.response ⟨21, 9, .badRequest, .none⟩) =
    [0, 21, 0, 1, 9, 1, 180, 148] := by decide +kernel

theorem test_sent_notice : officeSentBytes (.notice (.journalLevel 192 0 64 (some 1) (some 192))) =
    [0, 33, 0, 9, 0, 0, 192, 0, 0, 64, 0, 1, 0, 192, 79, 227] := by
  decide +kernel
/-! ### The spec's worked figures (R12, R67, R76, R118, R124, R131) -/

theorem test_bucket_of_a_card : bucketOf 65528 = 7 ∧ bucketOf 263 = 7 ∧ bucketOf 9999999999999999999 = 24 := by decide

/-- The tiers of the ordinals that R67 works out. -/
def tiersOf (b1 b2 b3 : Nat) : List Nat :=
  [1, 10, 11, 20, 21, 65536].map fun n => tierRate { Plan.reset with b1, b2, b3 } n ⟨1, 2, 3, 4⟩

theorem test_tiers_of_the_table :
    tiersOf 10 20 30 = [1, 1, 2, 2, 3, 4] ∧ tiersOf 10 20 20 = [1, 1, 2, 2, 4, 4]
      ∧ tiersOf 10 10 10 = [1, 1, 4, 4, 4, 4] ∧ tiersOf 65535 65535 65535 = [1, 1, 1, 1, 1, 4] := by decide

theorem test_rounding_half_up :
    rounded 50250 = 503 ∧ rounded 50249 = 502 ∧ rounded 50 = 1 ∧ rounded 49 = 0 := by decide

/-- Account 7 of the shop at a balance, and what is left there by an adjustment: balance, applied delta, sequence
number given, next sequence number. -/
def adjusted (balance delta : Int) (nextSeq : Nat) : Int × Option (Nat × Int) × Nat :=
  let t := after (.adjustAccount 1 7 delta 0)
    { shop with nextSeq, accounts := shop.accounts.set 7 { payer 0 0 with balance } }
  ((t.accounts.get 7).balance,
    t.journal.head?.bind fun r => match r.body with
      | .adjust x => some (r.sequence, x.applied)
      | .job _ => none,
    t.nextSeq)

theorem test_adjustment_saturates_high : adjusted 99999000 5000 65535 = (99999999, some (65535, 999), 1) := by
  decide +kernel

theorem test_adjustment_saturates_low : adjusted (-9998000) (-5000) 4 = (-9999999, some (4, -1999), 5) := by
  decide +kernel

theorem test_adjustment_below_zero : adjusted 2400 (-3000) 4 = (-600, some (4, -3000), 5) := by decide +kernel

theorem test_meter_rolls_over : rollMeter 99999999 1 = 0 ∧ rollMeter 99999998 1 = 99999999 := by decide

/-! ### One step of the families

The expected figures are worked by hand from the rules named. -/

/-- The status and figures of the newest response. -/
def replied (s : State) : Option (Status × Figures) := s.responses.getLast?.map fun r => (r.status, r.figures)

/-- The outcome of the ANSWER that was sent. -/
def answer (s : State) : Option AnswerOutcome :=
  match s.floorTx with
  | [.answer _ x] => some x.outcome
  | _ => none

/-- R12, R14: 65,528 has bucket 7, whose way 0 is taken. -/
theorem test_write_card_takes_the_next_way :
    replied (after (.writeCard 1 ⟨65528, 7, 0, 1⟩) shop) = some (.ok, .cardPlace 7 1) := by decide +kernel

/-- R17: a card that is not in the map. -/
theorem test_read_card_not_found : replied (after (.readCard 1 65528) shop) = some (.notFound, .none) := by
  decide +kernel

/-- R8: an absent field keeps its value, a present one is clamped. -/
theorem test_limits_keep_absent_fields :
    replied (after (.setAccountLimits 1 7 none none (some 901) none) shop) =
      some (.ok, .limits 500 1 900 (payer 0 0).rights) := by decide +kernel

/-- R20: a captured plan is not written. -/
theorem test_captured_plan_in_use :
    replied (after (.writePlan 1 { plainPlan with number := 1 }) work) = some (.inUse, .none) := by decide +kernel

/-- R26: available 1,500, ceiling h 300, m 25: the hold is 300. -/
theorem test_local_grant_holds_300 :
    (((after (.card 3 true 263) (resting .idle)).stations.get 2).job.map Job.hold) = some 300
      ∧ ((after (.card 3 true 263) (resting .idle)).presence.get 2).line = true := by decide +kernel

/-- R25, R29: a card that is not mapped takes the lowest channel, and its generation moves on. -/
theorem test_unknown_card_goes_online :
    (after (.card 3 true 999) (resting .idle)).notices = [.authRequest ⟨⟨0, 1⟩, 2, 999, none, none⟩] := by
  decide +kernel

/-- R38: the office reason reaches the station by its slot. -/
theorem test_decline_reaches_the_slot :
    ((after (.decline 1 (4096 + 5) 77) asking).presence.get 2).cardResult = some (.declined (.office 77))
      ∧ ((after (.decline 1 (4096 + 5) 77) asking).stations.get 2).state = .idle := by decide +kernel

/-- R35: another generation is VOID. -/
theorem test_old_tag_is_void : replied (after (.decline 1 (4096 + 4) 77) asking) = some (.void, .none) := by
  decide +kernel

/-- R50, R67: the third side is in tier 2, at 700. -/
theorem test_feed_prices_the_third_side : answer (after (.feed 3 true 3 (.simplex .sMono)) work) = some (.granted 3 700) := by
  decide +kernel

/-- R72, R80: the hold of 20 does not cover 23; the offer is h, 300. -/
theorem test_feed_extends_the_hold :
    (((after (.feed 3 true 3 (.simplex .sMono)) (working .active .idle { job with hold := 20 })).stations.get 2).job.map
      Job.hold) = some 320 := by decide +kernel

/-- R51, R132: the delivery of sheet 2 charges its 800 and counts on its meter. -/
theorem test_delivery_charges_the_sheet :
    (((after (.delivered 3 true 2) work).stations.get 2).job.map Job.total) = some 1600
      ∧ ((after (.delivered 3 true 2) work).meters.get 2).classes.sMono = 1 := by decide +kernel

/-- R52, R100: a delivery of another sheet is an order error and a jam. -/
theorem test_wrong_delivery_is_an_order_error :
    answer (after (.delivered 3 true 3) work) = some .order
      ∧ ((after (.delivered 3 true 3) work).stations.get 2).state = .jammed := by decide +kernel

/-- R106, R107: a restart at 3 writes sheet 2 off. -/
theorem test_recovery_writes_off :
    answer (after (.recovered 3 true 3) (working .jammed .jam owing)) = some (.restarted 3 1) := by decide +kernel

/-- R105: a restart beyond L + 1 is refused. -/
theorem test_recovery_beyond_the_path : answer (after (.recovered 3 true 4) (working .jammed .jam owing)) = some .protocol := by
  decide +kernel

/-- R75 to R77: T 1,600 less 100 per mille is 1,440, rounded 14, raised to m 25. -/
theorem test_finish_charges_the_minimum :
    (after (.finish 3 true) (working .active .idle drained)).floorTx =
      [.answer 2 ⟨true, .finish, .closed, .jobClosed ⟨.finished, 25, 975, 0⟩⟩] := by decide +kernel

/-- R55: with a sheet in flight the station drains. -/
theorem test_finish_drains :
    ((after (.finish 3 true) work).stations.get 2).timer = some ⟨.drain, 30⟩ := by decide +kernel

/-- R111: an abandoned jam closes the job with its owed sheet written off. -/
theorem test_abandoned_jam_closes :
    ((after (.jamTimerExpiry 3) (working .jammed .jam owing)).presence.get 2).jobClosed =
      some ⟨.jamAbandoned, 25, 975, 1⟩ := by decide +kernel

/-- R127: everything up to the number named goes. -/
theorem test_acknowledge_removes_up_to_the_number :
    replied (after (.acknowledgeJournal 1 65535) written) = some (.ok, .acknowledged 1 (some 1) 1) := by decide +kernel

/-- R62: values beyond a range are clamped to it. -/
theorem test_timers_are_clamped :
    (after (.setTimers 1 ⟨some 1, some 601, none, some 59, some 121, some 2⟩) shop).timers = ⟨5, 600, 120, 60, 120, 2⟩ := by
  decide +kernel

/-- R142, R143: CLOSED admits no job; the ACTIVE station drains, and is forced. -/
theorem test_closed_shop_forces_the_job :
    replied (after (.setMode 1 3) work) = some (.ok, .modeChange .openShop .closed 0 1) := by decide +kernel

/-- R143, R107: after a RECOVERED with restart number L+1 a SET MODE closes the job with nothing further written off. -/
theorem test_mode_change_after_a_restart_past_the_path :
    (after (.setMode 1 3) (working .active .idle (restartJob owing 3))).journal.map (fun r => match r.body with
      | .job b => (b.reason, b.writtenOff)
      | .adjust _ => (.finished, 0)) = [(.forced, 1)] := by decide +kernel

/-- R57, R133: with a sheet still owed after a restart, SET MODE writes it off in the record and the meter. -/
theorem test_mode_change_after_a_restart_on_the_path :
    ((after (.setMode 1 3) (working .active .idle owing)).meters.get 2).writtenOff = 1
      ∧ (after (.setMode 1 3) (working .active .idle owing)).journal.map (fun r => match r.body with
        | .job b => (b.reason, b.writtenOff)
        | .adjust _ => (.finished, 0)) = [(.forced, 1)] := by decide +kernel

/-- R52 (log entry 34): a DELIVERED of sheet 0 matches no sheet and is an order error. -/
theorem test_delivered_zero_is_an_order_error :
    ((after (.delivered 3 true 0) work).stations.get 2).state = .jammed := by decide +kernel

/-- R165: a FLOOR reset closes the job and writes its record. -/
theorem test_floor_reset_writes_the_record :
    (after (.resetFloor 1) work).journal.length = 1 ∧ (after (.resetFloor 1) work).reservations = 0 := by decide +kernel

/-- R151: the third miss loses the station and its open job is DETACHED. -/
theorem test_third_miss_detaches :
    let s := { work with presence := work.presence.set 2 { work.presence.get 2 with misses := 2 } }
    ((after .missedReply s).stations.get 2).state = .detached
      ∧ ((after .missedReply s).stations.get 2).remembered = some .active := by decide +kernel

/-- R148: two equal tokens make the address PRESENT, and the sweep moves on. -/
theorem test_sweep_finds_a_station :
    let s := after (.sweepReply (.hello 1 170 9 caps)) (after (.sweepReply (.hello 1 85 9 caps)) State.reset)
    (s.presence.get 0).state = .present ∧ s.awaiting = .sweepOne 1 := by decide +kernel

/-- R154: the same toggle again is answered with the stored answer, and nothing moves. -/
theorem test_repeated_event_is_answered_again :
    let s := after (.delivered 3 true 2) work
    answer (after (.delivered 3 true 2) { s with awaiting := .poll 2 none }) = some (.taken 2)
      ∧ ((after (.delivered 3 true 2) { s with awaiting := .poll 2 none }).meters.get 2).classes.sMono = 1 := by
  decide +kernel

/-- R158: a waiting response goes out, and a notice waits for it. -/
theorem test_response_goes_before_a_notice :
    let s := after (.readCard 1 65528) { shop with notices := [.journalLevel] }
    (after .sendNotice s).officeTx = [] ∧ (after .sendNotice (after .sendResponse s)).notices = [] := by
  decide +kernel

/-- A second on the empty queue (log entry 1): a timer at its last second puts its expiry in the queue. -/
theorem test_timer_runs_out :
    let s := working .active .idle owing
    (match step { s with stations := s.stations.set 2 { s.stations.get 2 with timer := some ⟨.idle, 1⟩ } } with
      | .next t => t.pending
      | .fault _ => []
      | .refused _ => []) = [.idleTimerExpiry 3] := by decide +kernel

/-- R162: a WINDOW DATA body too short for an index is no record of the table, and the window closes. -/
theorem test_window_body_without_an_index :
    let s := after (.windowData 1 0 (.short [7])) { shop with window := some ⟨.plans, 6, 7⟩ }
    s.window = none ∧ s.responses.map Response.status = [.windowError] := by decide +kernel

/-- R149, R154: the visit under way ends before the sweep, so its EVENT is taken and answered. -/
theorem test_event_of_the_last_visit_is_taken :
    let s := after (.status 3 true ⟨true, true, false, false⟩) { resting .idle with sweep := .requested }
    s.sweep = .running ∧ (s.presence.get 2).toggle = some true ∧ s.floorTx.length = 2
      ∧ (s.stations.get 2).engine.flags.doorOpen = true := by decide +kernel

/-- R149 (log entry 5): a CARD of that visit that would open a job is not taken, and the sweep meets no job. -/
theorem test_card_of_the_last_visit_waits :
    let s := after (.card 3 true 263) { resting .idle with sweep := .requested }
    s.sweep = .running ∧ (s.presence.get 2).toggle = none ∧ (s.stations.get 2).state = .idle := by decide +kernel

/-- R151: a STATUS of a LOST address brings its station back before it is taken. -/
theorem test_event_of_a_lost_address_returns_it_first :
    let s := after (.status 3 true ⟨false, true, false, true⟩) { resting .offline with
      presence := shop.presence.set 2 { shop.presence.get 2 with state := .lost, misses := 3, lossTimer := some 9 } }
    (s.stations.get 2).state = .idle ∧ (s.presence.get 2).state = .present ∧ (s.presence.get 2).lossTimer = none
      ∧ answer s = some .noted := by decide +kernel

/-! ### What meets the hypotheses of each statement

One theorem per statement that has hypotheses, with a state and operands for each of its clauses, at the ends of the
ranges. -/

theorem taking_polled (r : Station) : Taking (polled r) 2 none true :=
  ⟨⟨rfl, rfl, rfl, rfl⟩, by
    have h : ((polled r).presence.get 2).toggle = none := rfl
    rw [h]
    simp⟩

theorem taking_working (state : StationState) (k : TimerKind) (j : Job) : Taking (working state k j) 2 none true :=
  ⟨⟨rfl, rfl, rfl, rfl⟩, by
    have h : ((working state k j).presence.get 2).toggle = none := rfl
    rw [h]
    simp⟩

theorem witness_StepRunsFrontCommand : ({ shop with pending := [.pause 1, .visit] }).pending = .pause 1 :: [.visit] := rfl

theorem witness_EmptyQueuePassesASecond :
    work.pending = [] ∧ work.resetLow = false ∧ ({ work with resetLow := true }).resetLow = true
      ∧ (∃ k : RunningTimer, ((working .active .idle owing).stations.get 2).timer = some k ∧ 1 < k.remaining) :=
  ⟨rfl, rfl, rfl, ⟨.idle, 30⟩, rfl, by decide⟩

/-- The job of the tests as a guest's, on guest slot 480. -/
def guestJob : Job := { job with account := 480, guest := true, discount := 0 }

/-- The record of guest slot 480 with that job. -/
def guestRecord : Account :=
  { payer 300 1 with
    status := .guest, balance := 2000, creditLimit := 0, discount := 0, guestTag := some ⟨1, 5⟩ }

/-- Station 3 ACTIVE with the guest's job. -/
def visiting : State :=
  { work with
    stations := work.stations.set 2 { work.stations.get 2 with job := some guestJob }
    accounts := shop.accounts.set 480 guestRecord }

theorem account_visiting (n : AccountNo) : visiting.accounts.get n =
    if n = 480 then guestRecord else if n = 7 then payer 0 0
    else Account.reset (if n.val < 480 then .unloaded else .free) := by
  have h : visiting.accounts = (State.reset.accounts.set 7 (payer 0 0)).set 480 guestRecord := rfl
  rw [h, Table.get_set, Table.get_set]
  by_cases g : n = 480
  · simp [g]
  by_cases g7 : n = 7
  · simp [g7]
  · rw [if_neg g, if_neg g7, if_neg g, if_neg g7]
    unfold State.reset Table.append Table.fill Table.get
    simp only [List.getElem_append, List.length_replicate, List.getElem_replicate]
    split <;> simp_all

theorem jobsOn_visiting (n : AccountNo) : jobsOn visiting n = if n = 480 then [guestJob] else [] := by
  have h : openJobs visiting = [guestJob] := by decide +kernel
  unfold jobsOn
  rw [h]
  by_cases g : n = 480
  · subst g
    decide
  · have e : ((480 : AccountNo) == n) = false := by simpa using Ne.symm g
    simp [g, guestJob, e]

theorem accountLaw_visiting : AccountLaw visiting where
  stations := stationLaw_of _ (by decide +kernel) (by decide +kernel) (by decide +kernel) (by decide +kernel)
    (by decide +kernel) (by decide +kernel) (by decide +kernel)
  cards := cardLaw_of_cards (s := shop) rfl cardLaw_shop
  holds n := by
    rw [account_visiting, jobsOn_visiting]
    split
    · rfl
    · split <;> rfl
  count n := by
    rw [account_visiting, jobsOn_visiting]
    split
    · rfl
    · split <;> rfl
  regular n h := by
    rw [account_visiting, if_neg (by rintro rfl; exact absurd h (by decide))]
    split
    · exact .inr (.inl rfl)
    · exact .inl rfl
  slot n h := by
    rw [account_visiting]
    split
    · exact .inr rfl
    · rw [if_neg (by rintro rfl; exact absurd h (by decide)), if_neg (by omega)]
      exact .inl rfl
  idle n h := by
    rw [account_visiting] at h
    rw [jobsOn_visiting]
    split
    · subst_vars
      exact absurd h (by decide)
    · rfl
  guest n h := by
    rw [account_visiting] at h
    rw [jobsOn_visiting]
    split at h
    · next g =>
      rw [if_pos g]
      rfl
    · split at h
      · exact absurd h (by decide)
      · split at h <;> exact absurd h (by decide)
  flag := by decide +kernel
  captures := by decide +kernel
  loaded := by decide +kernel
  least := by decide +kernel
  terms := by decide +kernel

theorem witness_ResetsLeaveTheirTable :
    ({ work with resetLow := true }).resetLow = true ∧ Instr.visit ≠ .resetPinAssert
      ∧ Instr.visit ≠ .resetPinRelease ∧ work.resetLow = false ∧ JournalLaw work ∧ AccountLaw work
      ∧ jobAt work 0 = none ∧ jobsOn work 8 = [] ∧ jobAt work 2 = some job ∧ job.guest = false
      ∧ AccountLaw visiting ∧ jobAt visiting 2 = some guestJob ∧ guestJob.guest = true :=
  ⟨rfl, by decide, by decide, rfl, journalLaw_working, accountLaw_working, by decide +kernel, by decide +kernel,
    by decide +kernel, rfl, accountLaw_visiting, by decide +kernel, rfl⟩

theorem witness_ReportsChangeNothing :
    work.resetLow = false ∧ ((0 : Nat) = 0 ∨ 16 < 0) ∧ ((17 : Nat) = 0 ∨ 16 < 17) ∧ 512 ≤ 512 ∧ 8 ≤ 8 := by decide

theorem witness_JournalIsReadAndAcknowledged :
    written.resetLow = false ∧ SequenceLaw written ∧ written.journal.length ≤ 256
      ∧ ((0 : Nat) = 0 ∨ 65535 < 0) ∧ ((65536 : Nat) = 0 ∨ 65535 < 65536)
      ∧ (∀ r ∈ written.journal, r.sequence ≠ 2)
      ∧ (∀ k ∈ [0, 1], written.journal = written.journal.take k ++ written.journal.drop k)
      ∧ (written.journal.drop 0).head?.map JournalRecord.sequence = some 65535
      ∧ (written.journal.drop 1).head?.map JournalRecord.sequence = some 1 :=
  ⟨rfl, sequenceLaw_written, by decide, by decide, by decide, by decide, by decide, rfl, rfl⟩

theorem witness_MetersAreReadAndPreset :
    work.resetLow = false ∧ ((0 : Nat) = 0 ∨ 16 < 0) ∧ ((17 : Nat) = 0 ∨ 16 < 17) := by decide

theorem witness_WriteAccountChecksAndWrites :
    shop.resetLow = false
      ∧ (∀ p ∈ [(⟨480, 1, 0, 0, 0, 0, 0⟩ : AccountPayload), ⟨0, 0, 0, 0, 0, 0, 0⟩, ⟨0, 3, 0, 0, 0, 0, 0⟩,
          ⟨0, 1, -10000000, 0, 0, 0, 0⟩, ⟨0, 1, 100000000, 0, 0, 0, 0⟩, ⟨0, 1, 0, 0, 8, 0, 0⟩,
          ⟨0, 1, 0, 0, 0, 0, 64⟩],
        480 ≤ p.number ∨ (p.status ≠ 1 ∧ p.status ≠ 2) ∨ p.balance < -9999999 ∨ 99999999 < p.balance ∨ 8 ≤ p.plan
          ∨ 64 ≤ p.rights.toNat)
      ∧ (∀ p ∈ [(⟨479, 1, -9999999, 0, 7, 0, 63⟩ : AccountPayload), ⟨479, 2, 99999999, 0, 7, 901, 0⟩],
        p.number = (479 : AccountNo).val ∧ (479 : AccountNo).val < 480 ∧ p.plan = (7 : PlanNo).val
          ∧ p.rights.toNat < 64 ∧ -9999999 ≤ p.balance ∧ p.balance ≤ 99999999 ∧ (p.status = 1 ∨ p.status = 2)) := by
  decide

theorem witness_SetAccountLimitsKeepsAbsentFields :
    shop.resetLow = false ∧ 480 ≤ 480 ∧ (∃ q, some 8 = some q ∧ 8 ≤ q)
      ∧ (∃ b : Byte, some (64 : Byte) = some b ∧ 64 ≤ b.toNat)
      ∧ (479 : AccountNo).val < 480 ∧ some 7 = (some (7 : PlanNo)).map Fin.val
      ∧ (∀ b : Byte, some (63 : Byte) = some b → b.toNat < 64)
      ∧ (none : Option Nat) = (none : Option PlanNo).map Fin.val :=
  ⟨rfl, by decide, ⟨8, rfl, by decide⟩, ⟨64, rfl, by decide⟩, by decide, rfl,
    (by rintro b h; cases h; decide), rfl⟩

theorem witness_SetAccountStatusFollowsItsTable :
    shop.resetLow = false ∧ 480 ≤ 480 ∧ 3 ≤ 3 ∧ (479 : AccountNo).val < 480 := by decide

theorem witness_ChangedAccountsReportsAndClears : shop.resetLow = false := rfl

/-- Bucket 7 with all four ways used. -/
def crowded : State :=
  { shop with
    cards := shop.cards.set 7 (((shop.cards.get 7).set 1 (some ⟨65528, 7, none, true⟩)).set 2
      (some ⟨519, 7, some 400, false⟩) |>.set 3 (some ⟨775, 0, none, false⟩)) }

theorem cardLaw_crowded : CardLaw crowded := cardLaw_of _ (by decide +kernel) (by decide +kernel)

theorem witness_WriteCardFillsItsBucket :
    crowded.resetLow = false ∧ CardLaw crowded ∧ CardLaw shop
      ∧ (∀ p ∈ [(⟨0, 0, 0, 0⟩ : CardPayload), ⟨10000000000000000000, 0, 0, 0⟩, ⟨1, 480, 0, 0⟩, ⟨1, 0, 1000000, 0⟩,
          ⟨1, 0, 0, 2⟩],
        p.card = 0 ∨ 9999999999999999999 < p.card ∨ 480 ≤ p.account ∨ 999999 < p.ceiling ∨ 2 ≤ p.gated)
      ∧ (∀ p ∈ [(⟨263, 7, 24, 0⟩ : CardPayload), ⟨263, 7, 25, 1⟩, ⟨65528, 7, 0, 0⟩, ⟨1031, 7, 999999, 0⟩],
        1 ≤ p.card ∧ p.card ≤ 9999999999999999999 ∧ p.account = (7 : AccountNo).val ∧ (7 : AccountNo).val < 480
          ∧ p.ceiling ≤ 999999 ∧ p.gated ≤ 1 ∧ (7 : BucketNo).val = p.card % 65521 % 256)
      ∧ (24 < (shop.plans.get (shop.accounts.get 7).plan).m ∧ ¬ 25 < (shop.plans.get (shop.accounts.get 7).plan).m)
      ∧ (cardAt shop 7 0).map CardEntry.card = some 263
      ∧ (∀ w : WayNo, (cardAt shop 7 w).map CardEntry.card ≠ some 65528)
      ∧ (cardAt shop 7 1 = none ∧ ∀ v : WayNo, v < 1 → cardAt shop 7 v ≠ none)
      ∧ (∀ w : WayNo, (cardAt crowded 7 w).map CardEntry.card ≠ some 1031)
      ∧ ∀ w : WayNo, cardAt crowded 7 w ≠ none :=
  ⟨rfl, cardLaw_crowded, cardLaw_shop, by decide, by decide, by decide +kernel, by decide +kernel, by decide +kernel,
    by decide +kernel, by decide +kernel, by decide +kernel⟩

theorem witness_RemoveAndReadCard :
    shop.resetLow = false ∧ CardLaw shop ∧ ((0 : Nat) = 0 ∨ 9999999999999999999 < 0)
      ∧ 9999999999999999999 < 10000000000000000000 ∧ (7 : BucketNo).val = 263 % 65521 % 256
      ∧ cardAt shop 7 0 = some holder ∧ holder.card = 263
      ∧ (24 : BucketNo).val = 9999999999999999999 % 65521 % 256
      ∧ ∀ w : WayNo, (cardAt shop 24 w).map CardEntry.card ≠ some 9999999999999999999 :=
  ⟨rfl, cardLaw_shop, by decide, by decide, by decide, by decide +kernel, rfl, by decide, by decide +kernel⟩

/-- A plan at the upper ends of its fields, m equal to h. -/
def dearPlan : PlanPayload :=
  { number := 7, loaded := 1, b1 := 65535, b2 := 65535, b3 := 65535, m := 9999, h := 9999
    rates := ⟨⟨65535, 65535, 65535, 65535⟩, ⟨65535, 65535, 65535, 65535⟩, ⟨65535, 65535, 65535, 65535⟩,
      ⟨65535, 65535, 65535, 65535⟩, ⟨65535, 65535, 65535, 65535⟩, ⟨65535, 65535, 65535, 65535⟩⟩ }

theorem witness_WritePlanChecksAndLoads :
    shop.resetLow = false ∧ 8 ≤ ({ dearPlan with number := 8 }).number ∧ 2 ≤ ({ dearPlan with loaded := 2 }).loaded
      ∧ (dearPlan.loaded = 1 ∧ ¬ (1 ≤ ({ dearPlan with b1 := 0 }).b1))
      ∧ ({ dearPlan with m := 1, h := 0 }).loaded = 1 ∧ ¬ (1 ≤ ({ dearPlan with h := 0 }).h)
      ∧ dearPlan.number = (7 : PlanNo).val ∧ plainPlan.loaded = 0 ∧ plainPlan.number = (0 : PlanNo).val
      ∧ (dearPlan.loaded = 1 ∧ 1 ≤ dearPlan.b1 ∧ dearPlan.b1 ≤ dearPlan.b2 ∧ dearPlan.b2 ≤ dearPlan.b3
        ∧ dearPlan.b3 ≤ 65535
        ∧ (∀ c : ImpClass, (classGet dearPlan.rates c).t1 ≤ 65535 ∧ (classGet dearPlan.rates c).t2 ≤ 65535
          ∧ (classGet dearPlan.rates c).t3 ≤ 65535 ∧ (classGet dearPlan.rates c).t4 ≤ 65535)
        ∧ dearPlan.m ≤ 9999 ∧ 1 ≤ dearPlan.h ∧ dearPlan.h ≤ 999999 ∧ dearPlan.m ≤ dearPlan.h) :=
  ⟨rfl, by decide, by decide, by decide, rfl, by decide, rfl, rfl, rfl, rfl, by decide, by decide, by decide,
    by decide, (by intro c; cases c <;> decide), by decide, by decide, by decide, by decide⟩

theorem witness_CardGrantedLocally :
    Taking (resting .idle) 2 none true ∧ ((resting .idle).stations.get 2).state = .idle ∧ CardLaw (resting .idle)
      ∧ (7 : BucketNo).val = 263 % 65521 % 256 ∧ cardAt (resting .idle) 7 0 = some holder ∧ holder.card = 263
      ∧ recordCheck (resting .idle) ((resting .idle).accounts.get 7) = none ∧ SlotFree (resting .idle)
      ∧ ((resting .idle).accounts.get 7).rights.gated = false ∧ holder.gated = false
      ∧ ¬ FundsShort (resting .idle) ((resting .idle).accounts.get 7) :=
  ⟨taking_polled _, rfl, cardLaw_of_cards (s := shop) rfl cardLaw_shop, by decide, by decide +kernel, rfl,
    by decide +kernel, by unfold SlotFree; decide +kernel, by decide +kernel, rfl,
    by unfold FundsShort; decide +kernel⟩

/-- Every channel BUSY, station 3 IDLE and polled. -/
def lined : State :=
  { resting .idle with
    channels := queued.channels.set 1 ⟨5, some { record with station := 1 }⟩ }

/-- The shop with card 263 marked GATED, station 3 IDLE and polled. -/
def guarded : State :=
  { resting .idle with cards := shop.cards.set 7 ((shop.cards.get 7).set 0 (some { holder with gated := true })) }

theorem witness_CardGoesOnline :
    Taking (resting .idle) 2 none true ∧ ((resting .idle).stations.get 2).state = .idle ∧ CardLaw (resting .idle)
      ∧ SlotFree (resting .idle) ∧ (231 : BucketNo).val = 999 % 65521 % 256
      ∧ (∀ w : WayNo, (cardAt (resting .idle) 231 w).map CardEntry.card ≠ some 999)
      ∧ ((resting .idle).channels.get 0).busy = none
      ∧ (∀ d : ChannelNo, d < 0 → ((resting .idle).channels.get d).busy ≠ none)
      ∧ Taking lined 2 none true ∧ (∀ d : ChannelNo, (lined.channels.get d).busy ≠ none)
      ∧ Taking guarded 2 none true ∧ CardLaw guarded ∧ SlotFree guarded
      ∧ cardAt guarded 7 0 = some { holder with gated := true }
      ∧ recordCheck guarded (guarded.accounts.get 7) = none ∧ (guarded.channels.get 0).busy = none :=
  ⟨taking_polled _, rfl, cardLaw_of_cards (s := shop) rfl cardLaw_shop, by unfold SlotFree; decide +kernel, by decide,
    by decide +kernel, by decide +kernel, by decide +kernel, ⟨⟨rfl, rfl, rfl, rfl⟩, by decide +kernel⟩,
    by decide +kernel, ⟨⟨rfl, rfl, rfl, rfl⟩, by decide +kernel⟩, cardLaw_of _ (by decide +kernel) (by decide +kernel),
    by unfold SlotFree; decide +kernel, by decide +kernel, by decide +kernel, by decide +kernel⟩

/-- The shop with a full journal level, station 3 IDLE and polled. -/
def spoken : State := { resting .idle with reservations := 256 }

/-- Account 7 with 24 available, one below m; station 3 IDLE and polled. -/
def poor : State :=
  { resting .idle with accounts := shop.accounts.set 7 { payer 0 0 with balance := -476 } }

/-- The shop with account 7 SUSPENDED. -/
def barred : State :=
  { resting .idle with accounts := shop.accounts.set 7 { payer 0 0 with status := .suspended } }

theorem witness_CardTurnedAway :
    (∀ s ∈ [resting .disabled, asking, work, working .held .holdWait job, working .jammed .jam owing,
        working .closing .drain job, spoken, poor, barred],
      s.awaiting = .poll 2 none ∧ s.resetLow = false ∧ s.sweep = .idle ∧ (s.presence.get 2).state = .present
        ∧ (s.presence.get 2).toggle = none ∧ s.cards = shop.cards)
      ∧ CardLaw shop
      ∧ ((resting .disabled).stations.get 2).state = .disabled ∧ (asking.stations.get 2).state = .authorizing
      ∧ (work.stations.get 2).state = .active ∧ ((working .held .holdWait job).stations.get 2).state = .held
      ∧ ((working .jammed .jam owing).stations.get 2).state = .jammed
      ∧ ((working .closing .drain job).stations.get 2).state = .closing
      ∧ (spoken.stations.get 2).state = .idle ∧ ¬ SlotFree spoken
      ∧ (231 : BucketNo).val = 999 % 65521 % 256
      ∧ (∀ w : WayNo, (cardAt spoken 231 w).map CardEntry.card ≠ some 999)
      ∧ (7 : BucketNo).val = 263 % 65521 % 256
      ∧ cardAt spoken 7 0 = some holder ∧ recordCheck spoken (spoken.accounts.get 7) = none
      ∧ cardAt barred 7 0 = some holder ∧ recordCheck barred (barred.accounts.get 7) = some .suspended
      ∧ cardAt poor 7 0 = some holder ∧ recordCheck poor (poor.accounts.get 7) = none
      ∧ SlotFree poor ∧ (poor.accounts.get 7).rights.gated = false ∧ FundsShort poor (poor.accounts.get 7) :=
  ⟨by decide +kernel, cardLaw_shop, rfl, rfl, rfl, rfl, rfl, rfl, rfl, by unfold SlotFree; decide +kernel, by decide,
    by decide +kernel, by decide, by decide +kernel, by decide +kernel, by decide +kernel, by decide +kernel,
    by decide +kernel, by decide +kernel, by unfold SlotFree; decide +kernel, by decide +kernel,
    by unfold FundsShort; decide +kernel⟩

theorem witness_CancelEndsAnAuthorization :
    Taking asking 2 none true ∧ (asking.stations.get 2).state = .authorizing
      ∧ Taking work 2 none true ∧ (work.stations.get 2).state ≠ .authorizing :=
  ⟨⟨⟨rfl, rfl, rfl, rfl⟩, by decide +kernel⟩, rfl, taking_working _ _ _, by decide +kernel⟩

theorem stationLaw_asking : StationLaw asking :=
  stationLaw_of _ (by decide +kernel) (by decide +kernel) (by decide +kernel) (by decide +kernel)
    (by decide +kernel) (by decide +kernel) (by decide +kernel)

theorem witness_FreedChannelGoesToTheHead :
    StationLaw asking ∧ channelStation asking 1 = some 2 ∧ asking.waitQueue = []
      ∧ StationLaw queued ∧ channelStation queued 1 = some 2 ∧ queued.waitQueue = 4 :: []
      ∧ (queued.stations.get 4).authCard = some ⟨999, none⟩ ∧ (4 : Addr) ∈ queued.waitQueue
      ∧ (queued.stations.get 1).state ≠ .authorizing :=
  ⟨stationLaw_asking, by decide +kernel, rfl, stationLaw_queued, by decide +kernel, rfl, by decide +kernel,
    by decide +kernel, by decide +kernel⟩

theorem witness_ApproveAccountGrants :
    asking.resetLow = false ∧ (asking.channels.get tag.channel).busy = some record
      ∧ (asking.channels.get tag.channel).generation = tag.generation ∧ (7 : AccountNo).val < 480
      ∧ (∀ h ∈ [none, some 1, some 999999], ∀ k ∈ h, 1 ≤ k ∧ k ≤ 999999)
      ∧ recordCheck asking (asking.accounts.get 7) = none ∧ SlotFree asking
      ∧ ¬ FundsShort asking (asking.accounts.get 7) :=
  ⟨rfl, by decide +kernel, by decide +kernel, by decide, by decide, by decide +kernel,
    by unfold SlotFree; decide +kernel, by unfold FundsShort; decide +kernel⟩

theorem witness_ApproveGuestGrants :
    (∀ s ∈ [asking, { asking with mode := .afterHours }, { asking with mode := .service }],
      s.resetLow = false ∧ (s.channels.get tag.channel).busy = some record
        ∧ (s.channels.get tag.channel).generation = tag.generation ∧ s.mode ≠ .closed
        ∧ (s.plans.get 1).loaded = true ∧ s.journal.length + s.reservations < 256
        ∧ (s.mode ≠ .service → max (s.plans.get 1).m 1 ≤ 25) ∧ (s.accounts.get 480).status = .free)
      ∧ (rightsIn 63).mono = true ∧ (rightsIn 63).afterHours = true ∧ (rightsIn 63).service = true
      ∧ (63 : Byte).toNat < 64 ∧ 1 ≤ 25 ∧ 25 ≤ 999999 ∧ 480 ≤ (480 : AccountNo).val
      ∧ ∀ k : AccountNo, 480 ≤ k.val → k < 480 → (asking.accounts.get k).status ≠ .free :=
  ⟨by decide +kernel, by decide, by decide, by decide, by decide, by decide, by decide, by decide,
    fun k h g => absurd g (by simp [Fin.lt_def]; omega)⟩

/-- Station 3 in AUTHORIZING on channel 1, account 7 SUSPENDED. -/
def askingBarred : State := { asking with accounts := barred.accounts }

theorem witness_VerdictsThatGrantNothing :
    asking.resetLow = false ∧ (asking.channels.get tag.channel).busy = some record
      ∧ (asking.channels.get tag.channel).generation = tag.generation ∧ 255 ≤ 255
      ∧ (7 : AccountNo).val < 480
      ∧ (askingBarred.channels = asking.channels ∧ askingBarred.resetLow = false)
      ∧ recordCheck askingBarred (askingBarred.accounts.get 7) = some .suspended
      ∧ (rightsIn 2).mono = false ∧ (2 : Byte).toNat < 64
      ∧ (asking.stations.get 2).state = .authorizing
      ∧ (asking.stations.get 2).timer.map RunningTimer.kind = some .authorization
      ∧ 16384 ≤ 16384 ∧ 480 ≤ 480 ∧ 999999 < 1000000 ∧ 8 ≤ 8 ∧ 64 ≤ (64 : Byte).toNat ∧ 255 < 256
      ∧ (asking.channels.get 0).busy = none ∧ tagSent ⟨0, 0⟩ = 0
      ∧ (asking.channels.get 1).generation ≠ (4 : Generation) ∧ tagSent ⟨1, 4⟩ = 4100 ∧ tagSent ⟨3, 4095⟩ = 16383 :=
  ⟨rfl, by decide +kernel, by decide +kernel, by decide, by decide, ⟨rfl, rfl⟩, by decide +kernel, by decide,
    by decide, rfl, by decide +kernel, by decide, by decide, by decide, by decide, by decide, by decide, by decide +kernel, rfl,
    by decide +kernel, rfl, rfl⟩

/-- The job of the tests with a hold that just covers its next sheet: 800 + 800 + 700 is 23 minor units. -/
def tight : Job := { job with hold := 23 }

theorem witness_FeedWithinTheHold :
    Taking (working .active .idle tight) 2 none true
      ∧ ((working .active .idle tight).stations.get 2).state = .active
      ∧ jobAt (working .active .idle tight) 2 = some tight ∧ (3 : U16).val = tight.nextFeed ∧ 1 ≤ (3 : U16).val
      ∧ (∀ c ∈ sideClasses (.simplex .sMono),
        classGet ((working .active .idle tight).presence.get 2).capabilities c = true ∧ rightsAdmit tight.rights c = true)
      ∧ tight.inFlight.length < 8
      ∧ (tight.total + (tight.inFlight.map InFlight.price).sum
          + (feedEntry (working .active .idle tight) tight 3 (.simplex .sMono)).price + 99) / 100 = tight.hold :=
  ⟨taking_working _ _ _, rfl, rfl, rfl, by decide, by decide +kernel, by decide, by decide +kernel⟩

/-- Eight sheets in flight. -/
def packed : Job :=
  { job with
    confirmed := 1, highest := 9, nextFeed := 10
    inFlight := [2, 3, 4, 5, 6, 7, 8, 9].map fun n => ⟨n, ⟨.sMono, .priced⟩, none, 500, some n, false⟩ }

/-- The job of the tests at the end of the sheet numbers. -/
def lastSheet : Job := { owing with confirmed := 65535, highest := 65535, nextFeed := 65536 }

/-- Station 3 ACTIVE, having listed no class. -/
def mute : State := { work with presence := work.presence.set 2 { work.presence.get 2 with capabilities := perClass false } }

theorem witness_FeedRefused :
    (∀ j ∈ [job, packed, lastSheet], jobAt (working .active .idle j) 2 = some j)
      ∧ ((working .active .idle job).stations.get 2).state = .active
      ∧ (4 : U16).val ≠ job.nextFeed
      ∧ (sideClasses (.simplex .lMono)).any (fun c => !rightsAdmit job.rights c) = true
      ∧ (Taking mute 2 none true ∧ (mute.stations.get 2).state = .active ∧ jobAt mute 2 = some job)
      ∧ (sideClasses (.simplex .sMono)).any (fun c => !classGet (mute.presence.get 2).capabilities c) = true
      ∧ ((0 : U16).val = 0 ∧ 65536 = lastSheet.nextFeed ∧ 65535 < 65536)
      ∧ ((10 : U16).val = packed.nextFeed ∧ 8 ≤ packed.inFlight.length)
      ∧ ((working .held .holdWait job).stations.get 2).state = .held
      ∧ ((working .jammed .jam owing).stations.get 2).state = .jammed
      ∧ ((working .closing .drain job).stations.get 2).state = .closing
      ∧ (∀ st ∈ [StationState.offline, .disabled, .idle], ((resting st).stations.get 2).state = st)
      ∧ (asking.stations.get 2).state = .authorizing
      ∧ ∀ (state : StationState) (k : TimerKind) (j : Job), Taking (working state k j) 2 none true :=
  ⟨by decide +kernel, rfl, by decide, by decide, ⟨⟨⟨rfl, rfl, rfl, rfl⟩, by decide +kernel⟩, rfl, rfl⟩,
    by decide +kernel, ⟨rfl, rfl, by decide⟩, ⟨rfl, by decide⟩, rfl, rfl, rfl, by decide +kernel, rfl, taking_working⟩

/-- One minor unit short of its next sheet. -/
def short : Job := { job with hold := 22 }

theorem witness_FeedBeyondTheHold :
    Taking (working .active .idle short) 2 none true
      ∧ ((working .active .idle short).stations.get 2).state = .active
      ∧ jobAt (working .active .idle short) 2 = some short ∧ (3 : U16).val = short.nextFeed ∧ 1 ≤ (3 : U16).val
      ∧ (∀ c ∈ sideClasses (.simplex .sMono),
        classGet ((working .active .idle short).presence.get 2).capabilities c = true ∧ rightsAdmit short.rights c = true)
      ∧ short.inFlight.length < 8
      ∧ 23 = (short.total + (short.inFlight.map InFlight.price).sum
          + (feedEntry (working .active .idle short) short 3 (.simplex .sMono)).price + 99) / 100
      ∧ short.hold < 23 ∧ 0 < offered (working .active .idle short) short :=
  ⟨taking_working _ _ _, rfl, rfl, rfl, by decide, by decide +kernel, by decide, by decide +kernel, by decide,
    by decide +kernel⟩

theorem witness_FeedEntryIsPriced : 1 ≤ job.confirmed ∧ job.confirmed < 2 := by decide

/-- The sheet in flight of the test job. -/
def inAir : InFlight := ⟨2, ⟨.sMono, .priced⟩, none, 800, some 2, false⟩

theorem witness_DeliveryCharged :
    (∀ s ∈ [work, working .held .holdWait job, working .closing .drain job],
      jobAt s 2 = some job ∧ job.inFlight = inAir :: [] ∧ inAir.sheet = (2 : U16).val)
      ∧ (work.stations.get 2).state = .active ∧ ((working .held .holdWait job).stations.get 2).state = .held
      ∧ ((working .closing .drain job).stations.get 2).state = .closing
      ∧ ((working .closing .drain job).stations.get 2).pendingEnd = some .finished
      ∧ jobAt (working .closing .drain packed) 2 = some packed ∧ packed.inFlight.tail ≠ []
      ∧ ∀ (state : StationState) (k : TimerKind) (j : Job), Taking (working state k j) 2 none true :=
  ⟨by decide +kernel, rfl, rfl, rfl, rfl, rfl, by decide, taking_working⟩

theorem witness_DeliveryCountsEverySide :
    inAir.duplicate = false ∧ ({ inAir with duplicate := true }).duplicate = true
      ∧ (work.meters.get 2).all (fun x => decide (x ≤ 99999999)) = true := by decide +kernel

theorem witness_JamsAndOrderErrors :
    jobAt work 2 = some job ∧ (work.stations.get 2).state = .active
      ∧ jobAt (working .held .holdWait job) 2 = some job ∧ ((working .held .holdWait job).stations.get 2).state = .held
      ∧ job.inFlight.head?.map InFlight.sheet ≠ some (3 : U16).val
      ∧ ((working .closing .drain job).stations.get 2).state = .closing
      ∧ jobAt (working .closing .drain job) 2 = some job
      ∧ ((working .closing .drain job).stations.get 2).pendingEnd = some .finished
      ∧ ((working .jammed .jam owing).stations.get 2).state = .jammed
      ∧ (∀ st ∈ [StationState.offline, .disabled, .idle], ((resting st).stations.get 2).state = st)
      ∧ (asking.stations.get 2).state = .authorizing
      ∧ ∀ (state : StationState) (k : TimerKind) (j : Job), Taking (working state k j) 2 none true :=
  ⟨rfl, rfl, rfl, rfl, by decide, rfl, rfl, rfl, rfl, by decide +kernel, rfl, taking_working⟩

theorem witness_RecoveryRestartsAtItsNumber :
    Taking (working .jammed .jam owing) 2 none true ∧ ((working .jammed .jam owing).stations.get 2).state = .jammed
      ∧ jobAt (working .jammed .jam owing) 2 = some owing
      ∧ ((working .jammed .jam owing).stations.get 2).engine.flags.engineReady = true
      ∧ (3 : U16).val = owing.highest + 1
      ∧ Taking work 2 none true ∧ (work.stations.get 2).state ≠ .jammed :=
  ⟨taking_working _ _ _, rfl, rfl, rfl, rfl, taking_working _ _ _, by decide +kernel⟩

theorem witness_StatusKeepsAndLatches : Taking work 2 none true := taking_working _ _ _

theorem witness_FinishClosesByState :
    (∀ (state : StationState) (k : TimerKind) (j : Job), Taking (working state k j) 2 none true)
      ∧ (work.stations.get 2).state = .active ∧ jobAt work 2 = some job ∧ job.inFlight ≠ []
      ∧ ((working .held .holdWait drained).stations.get 2).state = .held
      ∧ jobAt (working .held .holdWait drained) 2 = some drained ∧ drained.inFlight = []
      ∧ ((working .jammed .jam owing).stations.get 2).state = .jammed
      ∧ jobAt (working .jammed .jam owing) 2 = some owing
      ∧ (¬ hasOpenJob ((resting .idle).stations.get 2).state = true) ∧ Taking (resting .idle) 2 none true
      ∧ ((working .closing .drain job).stations.get 2).state = .closing :=
  ⟨taking_working, rfl, rfl, by decide, rfl, rfl, rfl, rfl, rfl, by decide +kernel, taking_polled _, rfl⟩

/-- The job of the tests on a station that is away, with a state to return to. -/
def away (was : StationState) (j : Job) : State :=
  { working .detached .reconnectGrace j with
    stations := (working .detached .reconnectGrace j).stations.set 2
      { (working .detached .reconnectGrace j).stations.get 2 with remembered := some was }
    presence := shop.presence.set 2 { shop.presence.get 2 with state := .lost, misses := 3 } }

theorem witness_StationTimersClose :
    work.resetLow = false
      ∧ (∀ c ∈ [(StationState.active, TimerKind.idle, owing), (.held, .holdWait, job), (.jammed, .jam, owing),
          (.closing, .drain, job), (.detached, .reconnectGrace, job)],
        jobAt (working c.1 c.2.1 c.2.2) 2 = some c.2.2 ∧ ((working c.1 c.2.1 c.2.2).stations.get 2).state = c.1
          ∧ ((working c.1 c.2.1 c.2.2).stations.get 2).timer.map RunningTimer.kind = some c.2.1)
      ∧ ((working .closing .drain job).stations.get 2).pendingEnd = some .finished
      ∧ ((work.stations.get 2).timer.map RunningTimer.kind ≠ some .jam) :=
  ⟨rfl, by decide +kernel, rfl, by decide +kernel⟩

theorem witness_EndJobByState :
    work.resetLow = false ∧ ((0 : Nat) = 0 ∨ 16 < 0) ∧ ((17 : Nat) = 0 ∨ 16 < 17)
      ∧ (∀ st ∈ [StationState.offline, .disabled, .idle], ((resting st).stations.get 2).state = st)
      ∧ (asking.stations.get 2).state = .authorizing
      ∧ ∀ c ∈ [(StationState.active, TimerKind.idle, job), (.held, .holdWait, job), (.jammed, .jam, owing),
          (.closing, .drain, job), (.detached, .reconnectGrace, job)],
        hasOpenJob ((working c.1 c.2.1 c.2.2).stations.get 2).state = true
          ∧ jobAt (working c.1 c.2.1 c.2.2) 2 = some c.2.2 :=
  ⟨rfl, by decide, by decide, by decide +kernel, rfl, by decide +kernel⟩

theorem witness_PricesAndCharges :
    let p : Plan := { Plan.reset with b1 := 10, b2 := 20, b3 := 30 }
    p.b1 ≤ p.b2 ∧ p.b2 ≤ p.b3 ∧ 1 ≤ 1 ∧ 10 ≤ p.b1 ∧ p.b1 + 1 ≤ 11 ∧ 20 ≤ p.b2 ∧ p.b2 + 1 ≤ 21 ∧ 30 ≤ p.b3 ∧ p.b3 < 31
      ∧ (drained.service = false ∧ 1 ≤ classSum drained.charged)
      ∧ (drained.total * (1000 - drained.discount) / 1000 + 50) / 100 < 15
      ∧ ¬ (drained.total * (1000 - drained.discount) / 1000 + 50) / 100 < 14 := by decide

theorem witness_ChargeNeverExceedsTheHold : HoldLaw work ∧ AccountLaw work ∧ jobAt work 2 = some job :=
  ⟨holdLaw_working, accountLaw_working, rfl⟩

theorem witness_RetriesOnNewFunds :
    ((working .held .holdWait job).stations.get 2).state = .held ∧ jobAt (working .held .holdWait job) 2 = some job
      ∧ ((working .held .holdWait job).stations.get 2).wanted = some 310
      ∧ ((work.stations.get 2).state ≠ .held)
      ∧ (jobAt (working .held .holdWait job) 2).map Job.account ≠ some 8 ∧ (8 : AccountNo) ≠ 7 :=
  ⟨rfl, rfl, rfl, by decide +kernel, by decide +kernel, by decide⟩

theorem witness_AdjustAccountSaturates :
    shop.resetLow = false ∧ 512 ≤ 512 ∧ (-10000000 : Int) < -9999999 ∧ (9999999 : Int) < 10000000 ∧ 255 < 256
      ∧ (-9999999 : Int) ≤ -9999999 ∧ (9999999 : Int) ≤ 9999999 ∧ 255 ≤ 255 := by decide

theorem witness_SettingsTakeTheirValues :
    shop.resetLow = false ∧ 2 ≤ 2 ∧ (∀ a : Addr, atRest (shop.stations.get a).state = true) ∧ shop.waitQueue = []
      ∧ shop.mode ≠ .closed ∧ ((1 : Nat) = 1 ∧ ShopMode.afterHours = .afterHours) := by decide +kernel

/-- A job forced by a change to SERVICE, and one kept by a change to AFTER_HOURS. -/
theorem witness_SetModeEndsAndForces :
    work.resetLow = false ∧ StationLaw work ∧ StationLaw queued ∧ 4 ≤ 4
      ∧ ((0 : Nat) = 0 ∧ ShopMode.openShop = work.mode) ∧ ((2 : Nat) = 2 ∧ ShopMode.service ≠ work.mode)
      ∧ ((3 : Nat) = 3 ∧ ShopMode.closed ≠ work.mode) ∧ ((1 : Nat) = 1 ∧ ShopMode.afterHours ≠ work.mode)
      ∧ (queued.stations.get 2).state = .authorizing ∧ (shop.stations.get 2).state ≠ .authorizing
      ∧ ((∀ c ∈ [(StationState.active, TimerKind.idle, job), (.held, .holdWait, job), (.jammed, .jam, owing)],
          let s := working c.1 c.2.1 c.2.2
          (s.stations.get 2).state = c.1 ∧ jobAt s 2 = some c.2.2 ∧ c.2.2.service = false
            ∧ (c.2.2.rights.afterHours = true))
        ∧ (StationState.active ≠ .closing ∧ job.inFlight ≠ [] ∧ owing.inFlight = []))
      ∧ (jobAt (away .active job) 2 = some job ∧ ((away .active job).stations.get 2).state = .detached)
      ∧ (atRest (work.stations.get 3).state = true ∧ work.mode ≠ .closed ∧ ShopMode.afterHours ≠ .closed)
      ∧ (∀ (a : Addr) (j : Job), (work.stations.get a).state ≠ .closing ∧ jobAt work a = some j →
          j.account ≠ (8 : AccountNo)) :=
  ⟨rfl, stationLaw_working, stationLaw_queued, by decide, ⟨rfl, rfl⟩, ⟨rfl, by decide⟩, ⟨rfl, by decide⟩,
    ⟨rfl, by decide⟩, rfl, by decide +kernel, ⟨by decide +kernel, by decide +kernel⟩, by decide +kernel,
    ⟨by decide +kernel, by decide, by decide⟩, fun a j h =>
      (by decide +kernel : ∀ a : Addr, ∀ j ∈ jobAt work a, j.account ≠ (8 : AccountNo)) a j h.2⟩

theorem witness_SetStationEnableActsByState :
    work.resetLow = false ∧ ((0 : Nat) = 0 ∨ 16 < 0 ∨ 2 ≤ 0) ∧ ((17 : Nat) = 0 ∨ 16 < 17 ∨ 2 ≤ 0) ∧ 2 ≤ 2
      ∧ work.adminEnable.get 2 = true ∧ work.adminEnable.get 3 = false
      ∧ ((work.stations.get 3).state = .offline)
      ∧ ((resting .disabled).stations.get 2).state = .disabled
      ∧ (∀ st ∈ [StationState.offline, .disabled, .idle], ((resting st).stations.get 2).state = st
          ∧ (resting st).adminEnable.get 2 = true)
      ∧ (asking.stations.get 2).state = .authorizing
      ∧ hasOpenJob (work.stations.get 2).state = true ∧ jobAt work 2 = some job :=
  ⟨rfl, by decide, by decide, by decide, by decide +kernel, by decide +kernel, by decide +kernel, rfl,
    by decide +kernel, rfl, by decide +kernel, rfl⟩

theorem witness_RescanFloorStartsASweep :
    work.resetLow = false ∧ (∃ a : Addr, hasOpenJob (work.stations.get a).state = true)
      ∧ State.reset.sweep ≠ .idle
      ∧ (∀ a : Addr, ¬ (hasOpenJob (shop.stations.get a).state = true ∨ (shop.stations.get a).state = .authorizing))
      ∧ shop.sweep = .idle ∧ shop.awaiting = .none
      ∧ (resting .idle).awaiting ≠ .none
      ∧ (∀ a : Addr, ¬ (hasOpenJob ((resting .idle).stations.get a).state = true
          ∨ ((resting .idle).stations.get a).state = .authorizing))
      ∧ (let s := after (.rescanFloor 1) (resting .idle)
        s.resetLow = false ∧ s.sweep = .requested ∧ s.awaiting = .poll 2 none)
      ∧ (let s := after (.rescanFloor 1) { shop with awaiting := .probe 0 }
        s.resetLow = false ∧ s.sweep = .requested ∧ s.awaiting = .probe 0)
      ∧ ReplyButCard (.nothing 3) ∧ ReplyButCard (.finish 3 true) :=
  ⟨rfl, ⟨2, by decide +kernel⟩, by decide +kernel, by decide +kernel, rfl, rfl, by decide +kernel, by decide +kernel,
    by decide +kernel, by decide +kernel, .nothing 3, .event 3 true _ .finish (by intro n h; cases h)⟩

theorem witness_WindowsLoadRecordByRecord :
    shop.resetLow = false ∧ 3 ≤ 3 ∧ 512 < 513 ∧ 479 < 480 + 1 - 1 ∧ 1023 < 512 + 513 - 1 ∧ 7 < 0 + 9 - 1
      ∧ windowTableOf 0 = some .accounts ∧ 479 + 1 - 1 ≤ 479 ∧ 1 ≤ 1
      ∧ windowTableOf 1 = some .cards ∧ 512 + 512 - 1 ≤ 1023 ∧ 512 ≤ 512
      ∧ windowTableOf 2 = some .plans ∧ 0 + 8 - 1 ≤ 7
      ∧ shop.window = none
      ∧ (∀ k ∈ [WindowTable.accounts, .cards, .plans], ({ shop with window := some ⟨k, 6, 7⟩ }).window = some ⟨k, 6, 7⟩)
      ∧ 5 ≠ (⟨.plans, 6, 7⟩ : Window).next ∧ 6 = (⟨.plans, 6, 7⟩ : Window).next
      ∧ (∀ r ∈ [WindowRecord.account ⟨6, 1, 0, 0, 0, 0, 0⟩, .card ⟨263, 7, 0, 0⟩, .other [1]], r.hasIndex = true) := by
  decide +kernel

theorem witness_PanelTextsAndOtherFrames :
    shop.resetLow = false ∧ 1 ≤ 17 ∧ (16 < 17 ∧ 17 ≠ 255) ∧ (16 < 254 ∧ 254 ≠ 255) ∧ ¬ (61 ≤ 60)
      ∧ (∀ p ∈ [(⟨60, List.replicate 20 32, List.replicate 20 126⟩ : PanelPayload), ⟨0, [], []⟩],
        p.time ≤ 60 ∧ p.one.length ≤ 20 ∧ p.two.length ≤ 20
          ∧ (∀ c ∈ p.one, 32 ≤ c.toNat ∧ c.toNat ≤ 126) ∧ ∀ c ∈ p.two, 32 ≤ c.toNat ∧ c.toNat ≤ 126) := by decide

theorem witness_FramesGoOutByTheArbiter :
    shop.resetLow = false ∧ shop.notices = [] ∧ shop.responses = [] ∧ shop.paused = false
      ∧ (∀ n ∈ [NoticeEntry.authRequest ⟨tag, 2, 999, none, none⟩, .stationStatus 2, .journalLevel],
        ({ shop with notices := [n] }).notices = n :: [] ∧ ({ shop with notices := [n] }).responses = []
          ∧ ({ shop with notices := [n] }).paused = false)
      ∧ ({ shop with paused := true }).paused = true
      ∧ ({ shop with responses := [⟨1, 1, .ok, .none⟩] }).responses ≠ [] :=
  ⟨rfl, rfl, rfl, rfl, by decide +kernel, rfl, by decide⟩

/-- The whole floor PRESENT and idle, so that no address is ABSENT. -/
def crowd : State := { shop with presence := Table.fill 16 (shop.presence.get 2), roundPos := some 15 }

theorem witness_RoundsVisitAndProbe :
    (State.reset.sweep ≠ .idle) ∧ ((resting .idle).awaiting ≠ .none)
      ∧ shop.resetLow = false ∧ shop.sweep = .idle ∧ shop.awaiting = .none ∧ shop.roundPos = none
      ∧ (shop.presence.get 2).state = .present ∧ (shop.presence.get 2).jobClosed = none
      ∧ (shop.presence.get 2).cardResult = none ∧ (shop.presence.get 2).resume = false
      ∧ (shop.presence.get 2).panel = []
      ∧ (∀ b : Addr, b < 2 → (shop.presence.get b).state = .absent)
      ∧ (crowd.roundPos = some 15 ∧ ∀ b : Addr, (crowd.presence.get b).state = .present ∧ ¬ (15 : Addr) < b)
      ∧ ({ shop with roundPos := some 2 }).roundPos = some 2
      ∧ (∀ b : Addr, (shop.presence.get b).state = .present ∨ (shop.presence.get b).state = .lost → ¬ (2 : Addr) < b)
      ∧ ((shop.presence.get 0).state = .absent ∧ shop.lastProbed = none)
      ∧ (({ shop with roundPos := some 2, lastProbed := some 15 }).lastProbed = some 15
        ∧ ∀ b : Addr, ¬ (15 : Addr) < b) :=
  ⟨by decide +kernel, by decide +kernel, rfl, rfl, rfl, rfl, by decide +kernel, by decide +kernel, by decide +kernel,
    by decide +kernel, by decide +kernel, by decide +kernel, ⟨rfl, by decide +kernel⟩, rfl, by decide +kernel,
    ⟨by decide +kernel, rfl⟩, ⟨rfl, by decide⟩⟩

theorem witness_SweepDecidesEachAddress :
    State.reset.resetLow = false ∧ State.reset.awaiting = .sweepOne 0
      ∧ ({ State.reset with awaiting := .sweepOne 15 }).awaiting = .sweepOne 15
      ∧ (∀ f ∈ [FirstReply.missed, .bad, .hello 9],
        ({ State.reset with awaiting := .sweepTwo 15 f }).awaiting = .sweepTwo 15 f)
      ∧ ({ shop with awaiting := .probe 0 }).awaiting = .probe 0 ∧ shop.sweep = .idle
      ∧ awaitsSweep shop.awaiting = false ∧ awaitsProbe shop.awaiting = false := by decide +kernel

/-- A LOST station without a job, its loss timer running. -/
def strayed : State :=
  { resting .offline with
    presence := shop.presence.set 2 { shop.presence.get 2 with state := .lost, misses := 3, lossTimer := some 1 } }

theorem witness_PollRepliesWithoutAnEvent :
    Visited (resting .idle) 2 none ∧ ((resting .idle).presence.get 2).token = some 9
      ∧ ((resting .idle).presence.get 2).state = .present
      ∧ ((resting .idle).presence.get 2).token ≠ some 65535
      ∧ (∀ st ∈ [StationState.offline, .disabled, .idle], ((resting st).stations.get 2).state = st)
      ∧ (asking.stations.get 2).state = .authorizing ∧ Visited asking 2 none
      ∧ hasOpenJob (work.stations.get 2).state = true ∧ jobAt work 2 = some job ∧ Visited work 2 none
      ∧ (Visited strayed 2 none ∧ (strayed.presence.get 2).token = some 9 ∧ (strayed.presence.get 2).state = .lost)
      ∧ (∀ was ∈ [StationState.active, .held, .jammed, .closing], Visited (away was job) 2 none
          ∧ ((away was job).presence.get 2).state = .lost ∧ jobAt (away was job) 2 = some job
          ∧ hasOpenJob ((away was job).stations.get 2).state = true)
      ∧ EventFrom ((2 : Addr).val + 1) true (.card 3 true 263) ∧ EventFrom ((2 : Addr).val + 1) true (.feed 3 true 2 (.simplex .sMono))
      ∧ (∃ x : Answer,
        let s := { work with
          presence := work.presence.set 2 { work.presence.get 2 with toggle := some true, lastAnswer := some x } }
        Visited s 2 none ∧ (s.presence.get 2).toggle = some true ∧ (s.presence.get 2).lastAnswer = some x)
      ∧ (0 : Nat) = 0 ∧ 9999999999999999999 < 10000000000000000000 :=
  ⟨by unfold Visited; decide +kernel, rfl, by decide +kernel, by decide +kernel, by decide +kernel, rfl,
    by unfold Visited; decide +kernel, by decide +kernel, rfl, by unfold Visited; decide +kernel,
    by unfold Visited; decide +kernel, by unfold Visited; decide +kernel, .card 263 (by decide) (by decide),
    .feed 2 (.simplex .sMono),
    ⟨⟨true, .finish, .ignored, .none⟩, by unfold Visited; decide +kernel, rfl, rfl⟩, rfl, by decide⟩

/-- A state whose station 3 has missed two replies. -/
def missing (s : State) : State := { s with presence := s.presence.set 2 { s.presence.get 2 with misses := 2 } }

theorem witness_LossAndReturn :
    Polling work 2 none ∧ (work.presence.get 2).misses ≤ 1
      ∧ (∀ c ∈ [(StationState.active, TimerKind.idle, job), (.held, .holdWait, job), (.jammed, .jam, owing),
          (.closing, .drain, job)],
        Polling (missing (working c.1 c.2.1 c.2.2)) 2 none
          ∧ ((missing (working c.1 c.2.1 c.2.2)).presence.get 2).misses = 2
          ∧ ((missing (working c.1 c.2.1 c.2.2)).stations.get 2).state = c.1)
      ∧ (Polling (missing asking) 2 none ∧ ((missing asking).presence.get 2).misses = 2
        ∧ ((missing asking).stations.get 2).state = .authorizing)
      ∧ (∀ st ∈ [StationState.offline, .disabled, .idle], Polling (missing (resting st)) 2 none
          ∧ ((missing (resting st)).presence.get 2).misses = 2 ∧ ((missing (resting st)).stations.get 2).state = st)
      ∧ (strayed.presence.get 2).state = .lost ∧ (strayed.presence.get 2).lossTimer ≠ none
      ∧ (strayed.presence.get 2).misses = 3 ∧ (shop.presence.get 2).state ≠ .lost
      ∧ (strayed.awaiting = .poll 2 none ∧ strayed.sweep = .idle ∧ atRest (strayed.stations.get 2).state = true)
      ∧ ∀ was ∈ [StationState.active, .held, .jammed, .closing],
        (away was job).awaiting = .poll 2 none ∧ (away was job).sweep = .idle
          ∧ ((away was job).presence.get 2).state = .lost ∧ ((away was job).stations.get 2).state = .detached
          ∧ ((away was job).stations.get 2).remembered = some was :=
  ⟨⟨rfl, rfl, rfl, rfl⟩, by decide +kernel, by unfold Polling; decide +kernel, by unfold Polling; decide +kernel,
    by unfold Polling; decide +kernel, by decide +kernel, by decide +kernel, by decide +kernel, by decide +kernel,
    ⟨rfl, rfl, by decide +kernel⟩, by decide +kernel⟩

/-- The test state with a FINISH at the front of its queue. -/
def finishing : State := { work with pending := [.finish 3 true] }

theorem finishing_steps : ∃ t, step finishing = .next t := ⟨after (.finish 3 true) work, rfl⟩

theorem vendLaw_working : VendLaw finishing := by
  intro a
  revert a
  decide +kernel

theorem witness_StepKeepsTheVendLaw : VendLaw finishing ∧ ∃ t, step finishing = .next t :=
  ⟨vendLaw_working, finishing_steps⟩

theorem witness_StepKeepsTheHoldLaw : HoldLaw finishing ∧ ∃ t, step finishing = .next t :=
  ⟨holdLaw_working, finishing_steps⟩

theorem noticeLaw_working : NoticeLaw finishing := List.Pairwise.nil

theorem witness_StepKeepsTablesInOrder :
    (∃ t, step finishing = .next t) ∧ NoticeLaw finishing ∧ CardLaw finishing ∧ SequenceLaw finishing
      ∧ SequenceLaw written
      ∧ (∀ e ∈ [NoticeEntry.stationStatus 3, .journalLevel], sameSubject e (.stationStatus 2) = false)
      ∧ sameSubject (.authRequest ⟨⟨1, 5⟩, 2, 999, none, none⟩) (.authRequest ⟨⟨1, 6⟩, 4, 263, some 7, none⟩) = true :=
  ⟨finishing_steps, noticeLaw_working, cardLaw_of_cards (s := shop) rfl cardLaw_shop,
    ⟨by decide, by decide, by decide, by simp [show finishing.journal = [] from rfl]⟩, sequenceLaw_written,
    by decide, by decide⟩

theorem witness_StepKeepsTheStationLaw : StationLaw finishing ∧ ∃ t, step finishing = .next t :=
  ⟨⟨stationLaw_working.1, stationLaw_working.2, stationLaw_working.3, stationLaw_working.4, stationLaw_working.5,
    stationLaw_working.6, stationLaw_working.7⟩, finishing_steps⟩

theorem witness_StepKeepsTheJournalLaw : JournalLaw finishing ∧ ∃ t, step finishing = .next t :=
  ⟨⟨witness_StepKeepsTheStationLaw.1, journalLaw_working.2, journalLaw_working.3⟩, finishing_steps⟩

theorem witness_StepKeepsTheAccountLaw : AccountLaw finishing ∧ ∃ t, step finishing = .next t :=
  ⟨{ stations := witness_StepKeepsTheStationLaw.1, cards := cardLaw_of_cards (s := shop) rfl cardLaw_shop
     holds := accountLaw_working.holds, count := accountLaw_working.count, regular := accountLaw_working.regular
     slot := accountLaw_working.slot, idle := accountLaw_working.idle, guest := accountLaw_working.guest
     flag := accountLaw_working.flag, captures := accountLaw_working.captures, loaded := accountLaw_working.loaded
     least := accountLaw_working.least, terms := accountLaw_working.terms }, finishing_steps⟩

theorem witness_StepKeepsSheetsAndRanges : RangeLaw finishing ∧ ∃ t, step finishing = .next t :=
  ⟨{ sheets := sheetLaw_working, balance := rangeLaw_working.balance, credit := rangeLaw_working.credit
     discount := rangeLaw_working.discount, meters := rangeLaw_working.meters, timers := rangeLaw_working.timers
     misses := rangeLaw_working.misses, panel := rangeLaw_working.panel }, finishing_steps⟩

theorem witness_StepKeepsTheFloorLaw : FloorLaw finishing ∧ ∃ t, step finishing = .next t :=
  ⟨{ stations := witness_StepKeepsTheStationLaw.1, rest := floorLaw_working.rest, present := floorLaw_working.present
     lost := floorLaw_working.lost, missing := floorLaw_working.missing, detached := floorLaw_working.detached
     sweep := floorLaw_working.sweep, probe := floorLaw_working.probe, loss := floorLaw_working.loss },
    finishing_steps⟩

theorem witness_FramesRoundTrip :
    (Instr.setMode 255 2).wf = true ∧ (encodeOffice (.setMode 255 2)).isSome = true
      ∧ (Instr.card 16 true 9999999999999999999).wf = true ∧ cardInRange 9999999999999999999 = true
      ∧ (encodePollReply (.card 16 true 9999999999999999999)).isSome = true
      ∧ (encodePollReply (.finish 1 false)).isSome = true := by decide +kernel

theorem witness_DamagedFramesAreNotTaken :
    (openFrame (officeSentBytes (.response ⟨21, 9, .badRequest, .none⟩))).isSome = true
      ∧ (officeSentBytes (.response ⟨21, 9, .badRequest, .none⟩)).length ≠ 0 := by decide +kernel

end Sys2Proof.Tests
end

/-! ## Moves: what a step is made of

Every command changes the tables that the laws read by a few kinds of change only. `Move` lists them, each with what
the code has checked before it; `exec_moves` takes every command apart into them once. A law that every `Move` keeps
is then kept by every step. -/

namespace Sys2Proof.Machine

set_option Elab.async false

/-- What the laws of accounts and plans read of a job record. -/
structure Claim where
  account : AccountNo
  guest   : Bool
  plan    : PlanNo
  service : Bool
  hold    : Nat

/-- The claim of a job record. -/
def claimOf (j : Job) : Claim := ⟨j.account, j.guest, j.plan, j.service, j.hold⟩

/-- The claim of the open job of a station, if any. -/
def claimAt (s : State) (a : Addr) : Option Claim := (jobAt s a).map claimOf

/-- Two station states are both at rest, both with an open job, or both in AUTHORIZING. -/
def SameStanding (x y : StationState) : Prop := atRest x = atRest y ∧ hasOpenJob x = hasOpenJob y

/-- The tables that the laws read are the same; the link controllers, the meters and the settings may differ. -/
structure SameTables (s t : State) : Prop where
  accounts     : t.accounts = s.accounts
  cards        : t.cards = s.cards
  channels     : t.channels = s.channels
  waitQueue    : t.waitQueue = s.waitQueue
  plans        : t.plans = s.plans
  journal      : t.journal = s.journal
  reservations : t.reservations = s.reservations
  nextSeq      : t.nextSeq = s.nextSeq
  stations     : t.stations = s.stations
  presence     : t.presence = s.presence
  notices      : t.notices = s.notices

/-- A station is AUTHORIZING, or a channel is BUSY with it. -/
def InAuthorization (s : State) (a : Addr) : Prop := (s.stations.get a).state = .authorizing ∨ HoldsChannel s a

/-- A station at which a job may be granted: IDLE, or one whose tag an approval matched. -/
def Grantable (s : State) (a : Addr) : Prop := (s.stations.get a).state = .idle ∨ HoldsChannel s a

/-- A record that a grant may name: a regular number, or the account of a card's entry. -/
def Nameable (s : State) (n : AccountNo) : Prop :=
  n.val < 480 ∨ ∃ card l, lookupCard s card = some l ∧ l.account = n

/-- A grant but for the idle timer of the station. -/
def openJob (s : State) (a : Addr) (n : AccountNo) (guest : Bool) (ceiling : Option Nat) (hold : Nat) : State :=
  let x := s.accounts.get n
  let s := setAccount s n { x with holdsTotal := x.holdsTotal + hold, openJobs := x.openJobs + 1 }
  let s := releaseAuthorization s a
  let s := noticeLevel { s with reservations := s.reservations + 1 }
  let p := s.plans.get x.plan
  let s := setPlan s x.plan { p with captures := p.captures + 1 }
  let job := openingJob n guest (s.mode == .service) x ceiling hold
  let s := setStation s a { s.stations.get a with job := some job, authCard := none }
  enter s a .active

theorem grant_eq_openJob (s : State) (a : Addr) (n : AccountNo) (guest : Bool) (ceiling : Option Nat) (hold : Nat) :
    grant s a n guest ceiling hold = refreshIdle (openJob s a n guest ceiling hold) a := rfl

/-- The part of a close that takes the job off the record and the station. -/
def takeOff (s : State) (a : Addr) (reason : EndReason) (j : Job) : State :=
  clearStation (withdrawResume (settle s a reason j) a) a

/-- One change of the tables that the laws read. -/
inductive Move : State → State → Prop
  | links {s t : State} : SameTables s t → Move s t
  | reset {s t : State} : SameTables State.reset t → Move s t
  | presence {s : State} (a : Addr) (p : PresenceRecord) : p.line = (s.presence.get a).line →
      Move s (setPresence s a p)
  | station {s : State} (a : Addr) (r : Station) : r.state = (s.stations.get a).state →
      r.authCard = (s.stations.get a).authCard → r.job.map claimOf = claimAt s a → Move s (setStation s a r)
  | enter {s : State} (a : Addr) (st : StationState) : SameStanding (s.stations.get a).state st →
      Move s (enter s a st)
  | notice {s : State} (n : NoticeEntry) : Move s (placeNotice s n)
  | noticeSent {s : State} (e : NoticeEntry) (q : List NoticeEntry) : s.notices = e :: q →
      Move s { s with notices := q }
  | record {s : State} (b : RecordBody) : journalHasRoom s = true → Move s (writeRecord s b)
  | acknowledged {s : State} (k : Nat) : Move s { s with journal := s.journal.drop k }
  | cardStored {s : State} (e : CardEntry) (w : WayNo) : cardInRange e.card = true → e.account.val < 480 →
      writeWay s e.card = some w →
      Move s (setBucket s (bucketOf e.card) ((s.cards.get (bucketOf e.card)).set w (some e)))
  | cardFreed {s : State} (b : BucketNo) (w : WayNo) : Move s (setBucket s b ((s.cards.get b).set w none))
  | account {s : State} (n : AccountNo) (x : Account) : x.status = (s.accounts.get n).status →
      x.holdsTotal = (s.accounts.get n).holdsTotal → x.openJobs = (s.accounts.get n).openJobs →
      Move s (setAccount s n x)
  | accountWritten {s : State} (n : AccountNo) (x : Account) : n.val < 480 → (s.accounts.get n).openJobs = 0 →
      x.openJobs = 0 → x.holdsTotal = (s.accounts.get n).holdsTotal ∨ x.holdsTotal = 0 →
      x.status = .unloaded ∨ x.status = .openAccount ∨ x.status = .suspended → Move s (setAccount s n x)
  | accountStatus {s : State} (n : AccountNo) (st : AccountStatus) : n.val < 480 →
      (s.accounts.get n).status ≠ .unloaded → st = .openAccount ∨ st = .suspended →
      Move s (setAccount s n { s.accounts.get n with status := st })
  | plan {s : State} (p : PlanNo) (x : Plan) : (s.plans.get p).captures = 0 → x.captures = 0 →
      (x.loaded = true → x.m ≤ x.h) → Move s (setPlan s p x)
  | online {s : State} (a : Addr) (card : AuthCard) : (s.stations.get a).state = .idle → Move s (goOnline s a card)
  | ended {s : State} (a : Addr) : InAuthorization s a → Move s (endAuthorization s a)
  | endedAll {s : State} : Move s (endAuthorizations s)
  | granted {s : State} (a : Addr) (n : AccountNo) (ceiling : Option Nat) (hold : Nat) : Grantable s a →
      Nameable s n → accountDecline s n = none → journalHasRoom s = true →
      (s.mode ≠ .service → (s.plans.get (s.accounts.get n).plan).m ≤ hold) →
      Move s (openJob s a n false ceiling hold)
  | guestGranted {s : State} (a : Addr) (n : AccountNo) (amount : Nat) (plan : PlanNo) (rights : Rights) (tag : Tag) :
      HoldsChannel s a → guestRefusal s amount plan rights = .ok n →
      Move s (openJob (setAccount s n (guestAccount amount plan rights tag)) a n true none (guestHold s amount plan))
  | settled {s : State} (a : Addr) (reason : EndReason) (j : Job) : claimAt s a = some (claimOf j) →
      Move s (takeOff s a reason j)
  | extended {s : State} (a : Addr) (j : Job) : claimAt s a = some (claimOf j) → Move s (extend s a j)
  | floorDown {s : State} : (∀ a : Addr, hasOpenJob (s.stations.get a).state = true → jobAt s a = none) →
      Move s (floorDown (freeChannels s))

/-- Any number of moves. -/
abbrev Moves : State → State → Prop := Relation.ReflTransGen Move

end Sys2Proof.Machine

namespace Sys2Proof.Machine

set_option Elab.async false

/-! ### Standings -/

theorem SameStanding.refl (x : StationState) : SameStanding x x := ⟨rfl, rfl⟩

theorem SameStanding.of_atRest {x y : StationState} (hx : atRest x = true) (hy : atRest y = true) :
    SameStanding x y := by
  cases x <;> simp [atRest] at hx <;> cases y <;> simp [atRest] at hy <;> exact ⟨rfl, rfl⟩

theorem SameStanding.of_open {x y : StationState} (hx : hasOpenJob x = true) (hy : hasOpenJob y = true) :
    SameStanding x y := by
  cases x <;> simp [hasOpenJob] at hx <;> cases y <;> simp [hasOpenJob] at hy <;> exact ⟨rfl, rfl⟩

theorem SameStanding.authorizing_iff {x y : StationState} (h : SameStanding x y) :
    x = .authorizing ↔ y = .authorizing := by
  revert h
  cases x <;> cases y <;> simp [SameStanding, atRest, hasOpenJob]

theorem atRest_restState (s : State) (a : Addr) : atRest (restState s a) = true := by
  unfold restState
  split
  · split <;> rfl
  · rfl

/-! ### The operations over one record -/

theorem Moves.refl (s : State) : Moves s s := Relation.ReflTransGen.refl

section
variable {r s : State} (h : Moves r s)
include h

theorem Moves.move {t : State} (m : Move s t) : Moves r t := Relation.ReflTransGen.tail h m

theorem Moves.links {t : State}
    (e : SameTables s t := by exact ⟨rfl, rfl, rfl, rfl, rfl, rfl, rfl, rfl, rfl, rfl, rfl⟩) : Moves r t := h.move (.links e)

theorem Moves.setMeters (a : Addr) (m : Meters Nat) : Moves r (setMeters s a m) := h.links

theorem Moves.respond (k q : Nat) (st : Status) (f : Figures) : Moves r (respond s k q st f) := h.links

theorem Moves.setPresence (a : Addr) (p : PresenceRecord) (hp : p.line = (s.presence.get a).line := by rfl) :
    Moves r (setPresence s a p) := h.move (.presence a p hp)

theorem Moves.setStation (a : Addr) (x : Station) (hs : x.state = (s.stations.get a).state := by rfl)
    (hc : x.authCard = (s.stations.get a).authCard := by rfl) (hj : x.job.map claimOf = claimAt s a := by rfl) :
    Moves r (setStation s a x) := h.move (.station a x hs hc hj)

theorem Moves.setJob (a : Addr) (j : Job) (hj : claimAt s a = some (claimOf j)) : Moves r (setJob s a j) :=
  h.setStation a _ (hj := hj.symm)

theorem Moves.enter (a : Addr) (st : StationState) (hs : SameStanding (s.stations.get a).state st) :
    Moves r (enter s a st) := h.move (.enter a st hs)

theorem Moves.startTimer (a : Addr) (k : TimerKind) : Moves r (startTimer s a k) := h.setStation a _

theorem Moves.stopTimer (a : Addr) : Moves r (stopTimer s a) := h.setStation a _

theorem Moves.startLossTimer (a : Addr) : Moves r (startLossTimer s a) := h.setPresence a _

theorem Moves.refreshIdle (a : Addr) : Moves r (refreshIdle s a) := by
  obtain ⟨t, e⟩ := refreshIdle_eq s a
  rw [e]
  exact h.setStation a _

theorem Moves.takeRest (a : Addr) : Moves r (takeRest s a) := by
  rcases takeRest_cases s a with ⟨hr, e⟩ | ⟨_, e⟩ <;> rw [e]
  · exact h.enter a _ (.of_atRest hr (atRest_restState s a))
  · exact h

theorem Moves.newlyPresent (a : Addr) : Moves r (newlyPresent s a) := h.setStation a _

/-! ### Notices and messages -/

theorem Moves.placeNotice (n : NoticeEntry) : Moves r (placeNotice s n) := h.move (.notice n)

theorem Moves.noticeLevel : Moves r (noticeLevel s) := by
  unfold Machine.noticeLevel
  split
  · exact h.placeNotice _
  · exact h

theorem Moves.forgetSent (a : Addr) (m : Message) : Moves r (forgetSent s a m) := by
  obtain ⟨w, e⟩ := forgetSent_eq s a m
  rw [e]
  exact h.links

theorem Moves.placeCardResult (a : Addr) (x : CardResult) : Moves r (placeCardResult s a x) :=
  (h.forgetSent a .cardResult).setPresence a _

theorem Moves.placeResume (a : Addr) : Moves r (placeResume s a) := (h.forgetSent a .resume).setPresence a _

theorem Moves.withdrawResume (a : Addr) : Moves r (withdrawResume s a) := (h.forgetSent a .resume).setPresence a _

theorem Moves.placeClosed (a : Addr) (x : Option JobClosed) : Moves r (placeClosed s a x) := by
  cases x with
  | none => exact h
  | some j => exact ((h.forgetSent a .jobClosed).forgetSent a .cardResult).setPresence a _

theorem Moves.placePanel (a : Addr) (p : PanelPayload) : Moves r (placePanel s a p) := h.setPresence a _

theorem Moves.tickOrder (as : List Addr) : Moves r (tickOrder s as) := by
  obtain ⟨k, e⟩ := tickOrder_eq s as
  rw [e]
  exact h.links

theorem Moves.countDown (a : Addr) : Moves r (countDown s a) :=
  (h.setStation a _).setPresence a _

end

theorem Moves.foldl {α : Type} {r s : State} (h : Moves r s) {f : State → α → State}
    (hf : ∀ s x, Moves r s → Moves r (f s x)) (l : List α) : Moves r (l.foldl f s) := by
  induction l generalizing s with
  | nil => exact h
  | cons x l ih => exact ih (hf s x h)

theorem Moves.tick (s : State) : Moves s (tick s) := by
  unfold Machine.tick
  split
  · exact .refl s
  · dsimp only
    generalize allAddrs.filter (fun a => !(dueExpiries s a).isEmpty) = due
    have counted := ((Moves.refl s).tickOrder due).foldl (fun _ a h => h.countDown a) allAddrs
    generalize allAddrs.foldl Machine.countDown (Machine.tickOrder s due) = t at counted ⊢
    exact counted.links

/-! ### Holds -/

theorem claimAt_of_job {s : State} {a : Addr} {j : Job} (hj : (s.stations.get a).job = some j) :
    claimAt s a = some (claimOf j) := by simp [claimAt, jobAt, hj]

@[simp] theorem claimAt_setStation_self (s : State) (a : Addr) (x : Station) :
    claimAt (setStation s a x) a = x.job.map claimOf := by simp [claimAt, jobAt]

theorem extend_station (s : State) (a : Addr) (j : Job) :
    (extend s a j).stations.get a =
      { s.stations.get a with job := some { j with hold := j.hold + (offer s j).toNat } } := by
  simp [extend, Machine.setJob]

section
variable {r s : State} (h : Moves r s)
include h

theorem Moves.extend (a : Addr) (j : Job) (hj : claimAt s a = some (claimOf j)) : Moves r (extend s a j) :=
  h.move (.extended a j hj)

theorem Moves.resumeStation (a : Addr) (hs : hasOpenJob (s.stations.get a).state = true) :
    Moves r (resumeStation s a) :=
  (((h.enter a .active (.of_open hs rfl)).setStation a _).placeResume a).refreshIdle a

theorem Moves.retryStation (a : Addr) : Moves r (retryStation s a) := by
  unfold Machine.retryStation
  dsimp only
  split
  next j wanted hs hj _ =>
    split
    · refine (h.extend a j (claimAt_of_job hj)).resumeStation a ?_
      rw [extend_station]
      simp [hs, hasOpenJob]
    · exact h
  next => exact h

theorem Moves.retryAccount (n : AccountNo) : Moves r (retryAccount s n) := by
  refine h.foldl (fun s a h => ?_) _
  split
  · exact h.retryStation a
  · exact h

theorem Moves.retryIfRisen (before : Int) (n : AccountNo) : Moves r (retryIfRisen before s n) := by
  unfold Machine.retryIfRisen
  split
  · exact h.retryAccount n
  · exact h

/-! ### Closes -/

theorem Moves.closeQuiet (a : Addr) (reason : EndReason) (j : Job) (hj : claimAt s a = some (claimOf j)) :
    Moves r (closeQuiet s a reason j) := by
  have off : Moves r (takeOff (Machine.meterWriteOff s a (unconfirmed j)) a reason (writtenOffJob j)) :=
    (h.setMeters a _).move (.settled a reason (writtenOffJob j) hj)
  have lost : Moves r (closeAtLost (takeOff (Machine.meterWriteOff s a (unconfirmed j)) a reason (writtenOffJob j)) a) := by
    unfold closeAtLost
    split
    · exact off.startLossTimer a
    · exact off
  change Moves r (noticeLeavingJam _ a _)
  unfold noticeLeavingJam
  split
  · exact lost.placeNotice _
  · exact lost

theorem Moves.closeJob (a : Addr) (reason : EndReason) (retry : Bool) : Moves r (closeJob s a reason retry).1 := by
  unfold Machine.closeJob
  split
  next => exact h
  next j hj =>
    dsimp only
    split
    · exact (h.closeQuiet a reason j (claimAt_of_job hj)).retryIfRisen _ _
    · exact h.closeQuiet a reason j (claimAt_of_job hj)

theorem Moves.closeToSlot (a : Addr) (reason : EndReason) : Moves r (closeToSlot s a reason) :=
  (h.closeJob a reason true).placeClosed a _

theorem Moves.beginClosing (a : Addr) (reason : EndReason) (hs : hasOpenJob (s.stations.get a).state = true) :
    Moves r (beginClosing s a reason).1 := by
  have closing : Moves r (Machine.setStation (Machine.enter s a .closing) a
      { (Machine.enter s a .closing).stations.get a with pendingEnd := some reason, wanted := none }) :=
    (h.enter a .closing (.of_open hs rfl)).setStation a _
  unfold Machine.beginClosing
  split
  next => exact h
  next j _ =>
    dsimp only
    split
    · exact closing.closeJob a reason true
    · exact closing.startTimer a .drain

theorem Moves.beginClosingToSlot (a : Addr) (reason : EndReason) (hs : hasOpenJob (s.stations.get a).state = true) :
    Moves r (beginClosingToSlot s a reason) := (h.beginClosing a reason hs).placeClosed a _

theorem Moves.forceClose (a : Addr) : Moves r (forceClose s a) := by
  unfold Machine.forceClose
  split
  next hs => exact h.beginClosingToSlot a _ (by rw [hs]; rfl)
  next hs => exact h.beginClosingToSlot a _ (by rw [hs]; rfl)
  next => exact h.closeToSlot a _
  next => exact h.closeToSlot a _
  all_goals exact h

/-! ### Authorizations and grants -/

theorem Moves.declineToSlot (a : Addr) (why : DeclineReason) (hs : InAuthorization s a) :
    Moves r (declineToSlot s a why) := (h.move (.ended a hs)).placeCardResult a _

end

/-- The station of a matched tag holds its channel (R28). -/
theorem holdsChannel_of_matchTag {s : State} {t : Tag} {x : AuthRecord} (hx : matchTag s t = some x) :
    HoldsChannel s x.station :=
  ⟨t.channel, by simp [channelStation, (matchTag_eq_some.1 hx).1]⟩

theorem regularNo_eq_some {n : Nat} {m : AccountNo} : regularNo n = some m ↔ n = m.val ∧ m.val < 480 := by
  unfold regularNo accountNo
  constructor
  · intro h
    split at h
    next hn =>
      split at h
      · cases h; exact ⟨rfl, hn⟩
      · cases h
    next => cases h
  · rintro ⟨rfl, hm⟩
    simp [Config.firstGuest, hm]

theorem regularNo_eq_none {n : Nat} : regularNo n = none ↔ 480 ≤ n := by
  unfold regularNo accountNo
  split
  next h =>
    have : n < 480 := h
    rw [dif_pos (by omega)]
    simp only [reduceCtorEq, false_iff]
    omega
  next h => simpa [Config.firstGuest] using h

/-- Outside SERVICE mode funds that suffice give a hold of at least m (R26, R36). -/
theorem le_grantHold {s : State} {n : AccountNo} (base : Nat) (hf : fundsShort s n = false) (hm : s.mode ≠ .service) :
    (s.plans.get (s.accounts.get n).plan).m ≤ grantHold s n base := by
  simp [fundsShort, hm, leastFunds] at hf
  simp [grantHold, hm]
  omega

/-- What an approval that no check refuses has passed (R36). -/
theorem approvalRefusal_eq_none {s : State} {n : AccountNo} :
    approvalRefusal s n = none ↔ accountDecline s n = none ∧ journalHasRoom s = true ∧ fundsShort s n = false := by
  unfold approvalRefusal
  cases accountDecline s n <;> cases journalHasRoom s <;> cases fundsShort s n <;> simp

/-- What a local grant has passed (R24, R26). -/
theorem localChecks_grant {s : State} {lookup : Option CardLookup} {n : AccountNo} {ceiling : Option Nat} {hold : Nat}
    (h : localChecks s lookup = .grant n ceiling hold) :
    ∃ l, lookup = some l ∧ l.account = n ∧ accountDecline s n = none ∧ journalHasRoom s = true
      ∧ fundsShort s n = false ∧ ∃ base, hold = grantHold s n base := by
  unfold localChecks at h
  split at h
  next => split at h <;> cases h
  next l =>
    split at h
    next => cases h
    next hd =>
      dsimp only at h
      split at h
      next => cases h
      next hr =>
        split at h
        next => cases h
        next =>
          split at h
          next => cases h
          next hf =>
            cases h
            exact ⟨l, rfl, rfl, hd, by simpa using hr, by simpa using hf, _, rfl⟩

section
variable {r s : State} (h : Moves r s)
include h

theorem Moves.goOnline (a : Addr) (card : AuthCard) (hs : (s.stations.get a).state = .idle) :
    Moves r (goOnline s a card) := h.move (.online a card hs)

theorem Moves.grant (a : Addr) (n : AccountNo) (ceiling : Option Nat) (base : Nat) (ha : Grantable s a)
    (hn : Nameable s n) (hd : accountDecline s n = none) (hr : journalHasRoom s = true) (hf : fundsShort s n = false) :
    Moves r (grant s a n false ceiling (grantHold s n base)) := by
  rw [grant_eq_openJob]
  exact (h.move (.granted a n ceiling _ ha hn hd hr (le_grantHold base hf))).refreshIdle a

theorem Moves.refuseApproval (a : Addr) (why : DeclineReason) (hs : HoldsChannel s a) :
    Moves r (refuseApproval s a why).state := h.declineToSlot a why (.inr hs)

theorem Moves.approveAccount (tag account : Nat) (hold : Option Nat) :
    Moves r (approveAccount tag account hold s).state := by
  unfold Machine.approveAccount
  split
  next t n _ hn =>
    split
    · exact h
    · split
      next => exact h
      next x hx =>
        have hc := holdsChannel_of_matchTag hx
        split
        next => exact h.refuseApproval x.station _ hc
        next ok =>
          obtain ⟨hd, hr, hf⟩ := approvalRefusal_eq_none.1 ok
          exact (h.grant x.station n _ _ (.inr hc) (.inl (regularNo_eq_some.1 hn).2) hd hr hf).placeCardResult _ _
  next => exact h

theorem Moves.approveGuest (tag amount plan : Nat) (rights : Byte) :
    Moves r (approveGuest tag amount plan rights s).state := by
  unfold Machine.approveGuest
  split
  next t p rights _ _ _ =>
    split
    · exact h
    · split
      next => exact h
      next x hx =>
        have hc := holdsChannel_of_matchTag hx
        split
        next => exact h.refuseApproval x.station _ hc
        next n ok =>
          have opened := h.move (.guestGranted x.station n amount p rights t hc ok)
          exact (opened.refreshIdle x.station).placeCardResult _ _
  next => exact h

theorem Moves.declineAnswer (tag reason : Nat) : Moves r (declineAnswer tag reason s).state := by
  unfold Machine.declineAnswer
  split
  next =>
    split
    · exact h
    · split
      next => exact h
      next x hx => exact h.declineToSlot x.station _ (.inr (holdsChannel_of_matchTag hx))
  next => exact h

/-! ### Station events -/

theorem Moves.takeCard (number : Nat) (a : Addr) : Moves r (takeCard number s a).state := by
  unfold Machine.takeCard
  split
  next hs =>
    unfold authorizeCard resultOf
    dsimp only
    split
    next => exact h.takeRest a
    next => exact h.goOnline a _ hs
    next n ceiling _ ok =>
      obtain ⟨l, hl, hn, hd, hr, hf, base, rfl⟩ := localChecks_grant ok
      have grantable : Grantable s a := .inl hs
      have nameable : Nameable s n := .inr ⟨number, l, hl, hn⟩
      have granted := h.grant a n ceiling base grantable nameable hd hr hf
      exact granted
  all_goals exact h

theorem Moves.takeCancel (a : Addr) : Moves r (takeCancel s a).state := by
  unfold Machine.takeCancel
  split
  next hs => exact h.move (.ended a (.inl hs))
  next => exact h

theorem Moves.grantFeed (a : Addr) (j : Job) (e : InFlight) (hj : claimAt s a = some (claimOf j)) :
    Moves r (grantFeed s a j e).state := (h.setJob a (admitEntry j e) hj).stopTimer a

theorem Moves.enterHeld (a : Addr) (wanted : Nat) (hs : hasOpenJob (s.stations.get a).state = true) :
    Moves r (enterHeld s a wanted) := by
  refine ((((h.withdrawResume a).enter a .held (.of_open ?_ rfl)).setStation a _).startTimer a .holdWait)
  obtain ⟨w, e⟩ := withdrawResume_eq s a
  rw [e]
  exact hs

theorem Moves.takeFeed (sheet : U16) (sides : Sides) (a : Addr) : Moves r (takeFeed sheet sides s a).state := by
  unfold Machine.takeFeed
  split
  next hs =>
    split
    next => exact h
    next j hj =>
      have hc := claimAt_of_job hj
      split
      next => exact h
      next =>
        unfold holdCheck
        split
        · exact h.grantFeed a j _ hc
        · split
          · refine (h.extend a j hc).grantFeed a _ _ ?_
            exact claimAt_of_job (by rw [extend_station])
          · exact h.enterHeld a _ (by rw [hs]; rfl)
  all_goals exact h

theorem Moves.recordJam (a : Addr) (cause : JamCause) : Moves r (recordJam s a cause) :=
  ((h.setMeters a _).setStation a _).placeNotice _

end

theorem recordJam_station (s : State) (a : Addr) (cause : JamCause) :
    (recordJam s a cause).stations.get a =
      { s.stations.get a with engine := { (s.stations.get a).engine with lastJam := cause } } := by
  simp [recordJam, placeNotice, meterJam]

theorem claimOf_chargeSide (j : Job) (d : Side) : claimOf (chargeSide j d) = claimOf j := by
  unfold chargeSide
  split <;> rfl

theorem claimOf_deliverEntry (j : Job) (e : InFlight) (rest : List InFlight) :
    claimOf (deliverEntry j e rest) = claimOf j := by
  have sides (l : List Side) (k : Job) : claimOf (l.foldl chargeSide k) = claimOf k := by
    induction l generalizing k with
    | nil => rfl
    | cons d l ih => exact (ih _).trans (claimOf_chargeSide k d)
  unfold deliverEntry
  split
  · rfl
  · exact sides _ j

section
variable {r s : State} (h : Moves r s)
include h

theorem Moves.enterJammed (a : Addr) (hs : hasOpenJob (s.stations.get a).state = true) :
    Moves r (enterJammed s a) := by
  refine (((h.enter a .jammed (.of_open hs rfl)).setStation a _ (hj := ?_)).startTimer a .jam)
  simp only [claimAt, jobAt, Option.map_map]
  rfl

theorem Moves.takeJam (cause : JamCause) (a : Addr) : Moves r (takeJam cause s a).state := by
  have jam := h.recordJam a cause
  have still : ((Machine.recordJam s a cause).stations.get a).state = (s.stations.get a).state := by
    rw [recordJam_station]
  unfold Machine.takeJam
  dsimp only
  split
  next hs => exact jam.enterJammed a (by rw [still, hs]; rfl)
  next hs => exact jam.enterJammed a (by rw [still, hs]; rfl)
  next => exact jam.closeJob a _ true
  all_goals exact jam

theorem Moves.orderError (a : Addr) : Moves r (orderError s a).state := h.takeJam .order a

theorem Moves.takeMatching (a : Addr) (j : Job) (e : InFlight) (rest : List InFlight)
    (hj : claimAt s a = some (claimOf j)) : Moves r (takeMatching s a j e rest).state := by
  have counted : Moves r (Machine.setJob (countSheet s a j.service e) a (deliverEntry j e rest)) :=
    (h.setMeters a _).setJob a _ (hj.trans (by rw [claimOf_deliverEntry]))
  unfold Machine.takeMatching
  dsimp only
  split
  · exact counted.closeJob a _ true
  · exact counted

theorem Moves.matchDelivery (sheet : U16) (a : Addr) : Moves r (matchDelivery sheet s a).state := by
  unfold Machine.matchDelivery
  split
  next => exact h
  next j hj =>
    split
    next => exact h.orderError a
    next e rest _ =>
      split
      · exact h.takeMatching a j e rest (claimAt_of_job hj)
      · exact h.orderError a

theorem Moves.takeDelivered (sheet : U16) (a : Addr) : Moves r (takeDelivered sheet s a).state := by
  unfold Machine.takeDelivered
  split
  next => exact h.matchDelivery sheet a
  next => exact h.matchDelivery sheet a
  next => exact h.matchDelivery sheet a
  next => exact h.orderError a
  all_goals exact h

theorem Moves.acceptRestart (a : Addr) (j : Job) (n : Nat) (hj : (s.stations.get a).job = some j)
    (hs : (s.stations.get a).state = .jammed) : Moves r (acceptRestart s a j n).state := by
  have moved : Moves r (Machine.setJob (meterWriteOff s a (restartWriteOff j n)) a (restartJob j n)) :=
    (h.setMeters a _).setJob a _ (claimAt_of_job (s := s) hj :)
  refine ((moved.enter a .active (.of_open ?_ rfl)).refreshIdle a).placeNotice _
  simp [Machine.setJob, meterWriteOff, hs, hasOpenJob]

theorem Moves.takeRecovered (restart : U16) (a : Addr) : Moves r (takeRecovered restart s a).state := by
  unfold Machine.takeRecovered
  dsimp only
  split
  next j hs hj =>
    split
    · exact h
    · split
      · exact h
      · exact h.acceptRestart a j _ hj hs
  next => exact h

theorem Moves.takeStatus (f : EngineFlags) (a : Addr) : Moves r (takeStatus f s a).state := by
  have set : Moves r (Machine.setStation s a
      { s.stations.get a with engine := statusEngine (s.stations.get a).engine f }) := h.setStation a _
  unfold Machine.takeStatus
  change Moves r (if _ then _ else _)
  split
  · exact set
  · exact set.placeNotice _

theorem Moves.takeFinish (a : Addr) : Moves r (takeFinish s a).state := by
  unfold Machine.takeFinish
  split
  next hs => exact h.beginClosing a _ (by rw [hs]; rfl)
  next hs => exact h.beginClosing a _ (by rw [hs]; rfl)
  next => exact h.closeJob a _ true
  all_goals exact h

/-! ### The floor link -/

theorem Moves.endExchange : Moves r (endExchange s) := by
  unfold Machine.endExchange
  dsimp only
  split <;> exact h.links

theorem Moves.nextTurn (a : Addr) : Moves r (nextTurn s a) := by
  unfold Machine.nextTurn
  split <;> exact h.links

theorem Moves.foundPresent (a : Addr) (token : U16) (caps : Capabilities) :
    Moves r (foundPresent s a token caps) := by
  have found := h.setPresence a { s.presence.get a with
    state := .present, token := some token, capabilities := caps, misses := 0, toggle := none
    lastAnswer := none, lossTimer := none } rfl
  refine Moves.takeRest ?_ a
  split
  · exact found
  · exact found.newlyPresent a

theorem Moves.foundMissing (a : Addr) (st : Presence) : Moves r (foundMissing s a st) :=
  (h.setPresence a _).takeRest a

theorem Moves.sweepOutcome (a : Addr) (x y : FirstReply) (caps : Capabilities) :
    Moves r (sweepOutcome s a x y caps) := by
  unfold Machine.sweepOutcome
  split
  · exact h.foundPresent a _ caps
  · exact h.foundMissing a _

theorem Moves.probeTurn (x : Option ProbeReply) : Moves r (probeTurn s x) := by
  unfold Machine.probeTurn
  split
  next => exact h.links
  next a _ _ => exact (h.sweepOutcome a _ _ _).nextTurn a
  next a _ =>
    split
    · exact (h.foundPresent a _ _).endExchange
    · exact h.endExchange
  next => exact h
  next => exact h

theorem Moves.detach (a : Addr) (hs : hasOpenJob (s.stations.get a).state = true) : Moves r (detach s a) :=
  ((h.enter a .detached (.of_open hs rfl)).setStation a _).startTimer a .reconnectGrace

theorem Moves.loseStation (a : Addr) : Moves r (loseStation s a) := by
  unfold Machine.loseStation
  split
  next hs => exact h.detach a (by rw [hs]; rfl)
  next hs => exact h.detach a (by rw [hs]; rfl)
  next hs => exact h.detach a (by rw [hs]; rfl)
  next hs => exact h.detach a (by rw [hs]; rfl)
  next hs => exact (h.declineToSlot a _ (.inl hs)).startLossTimer a
  next hs => exact (h.enter a .offline (.of_atRest (by rw [hs]; rfl) rfl)).startLossTimer a
  next hs => exact (h.enter a .offline (.of_atRest (by rw [hs]; rfl) rfl)).startLossTimer a
  next hs => exact (h.enter a .offline (.of_atRest (by rw [hs]; rfl) rfl)).startLossTimer a
  next => exact h

theorem Moves.backTo (a : Addr) (st : StationState) (hs : SameStanding (s.stations.get a).state st) :
    Moves r (backTo s a st) := (h.enter a st hs).setStation a _

theorem Moves.returnStation (a : Addr) : Moves r (returnStation s a) := by
  unfold Machine.returnStation
  split
  next hs =>
    have back (st : StationState) (ho : hasOpenJob st = true) : Moves r (Machine.backTo s a st) :=
      h.backTo a st (.of_open (by rw [hs]; rfl) ho)
    unfold restoreStation
    split
    · exact (back .active rfl).refreshIdle a
    · exact ((back .held rfl).startTimer a .holdWait).retryStation a
    · exact (back .jammed rfl).startTimer a .jam
    · exact (back .closing rfl).startTimer a .drain
    · exact h
  next => exact h.takeRest a

theorem Moves.restartStation (a : Addr) : Moves r (restartStation s a) := by
  refine Moves.newlyPresent ?_ a
  split
  next hs => exact h.declineToSlot a _ (.inl hs)
  iterate 5 next => exact h.closeToSlot a _
  all_goals exact h.takeRest a

theorem Moves.missPoll (a : Addr) : Moves r (missPoll s a) := by
  unfold Machine.missPoll
  dsimp only
  split
  next =>
    split
    · exact (h.setPresence a _).loseStation a
    · exact h.setPresence a _
  next => exact h.setPresence a _
  all_goals exact h

end

theorem confirmIn_line (p : PresenceRecord) (m : Option Message) : (confirmIn p m).line = p.line := by
  unfold confirmIn
  split <;> rfl

theorem Moves.heard {r s : State} (h : Moves r s) (a : Addr) (sent : Option Message) : Moves r (heard s a sent) :=
  h.setPresence a _ (confirmIn_line _ _)

theorem Moves.validReply {r s : State} (h : Moves r s) (a : Addr) (sent : Option Message)
    (f : Bool → State → State) (hf : ∀ lost t, Moves r t → Moves r (f lost t)) :
    Moves r (validReply s a sent f) := by
  unfold Machine.validReply
  dsimp only
  split
  · exact hf _ _ (h.heard a sent)
  · exact h

section
variable {r s : State} (h : Moves r s)
include h

theorem Moves.clearToggle (a : Addr) : Moves r (clearToggle s a) := h.setPresence a _

theorem Moves.returnIf (lost : Bool) (a : Addr) : Moves r (returnIf lost s a) := by
  cases lost
  · exact h
  · exact h.returnStation a

theorem Moves.takeHello (token : U16) (caps : Capabilities) (a : Addr) (lost : Bool) :
    Moves r (takeHello token caps a lost s) := by
  unfold Machine.takeHello
  split
  · exact (h.returnIf lost a).clearToggle a
  · exact ((h.clearToggle a).setPresence a _).restartStation a

theorem Moves.sendAnswer (a : Addr) (x : Answer) : Moves r (sendAnswer s a x) := by
  have kept := h.setPresence a { s.presence.get a with toggle := some x.toggle, lastAnswer := some x }
  exact kept.links

theorem Moves.repeatAnswer (a : Addr) : Moves r (repeatAnswer s a) := by
  unfold Machine.repeatAnswer
  split
  · exact h.links
  · exact h

theorem Moves.takeEvent (toggle : Bool) (kind : EventKind) (ju : State → Addr → EventResult)
    (hju : ∀ t b, Moves r t → Moves r (ju t b).state) (a : Addr) (lost : Bool) :
    Moves r (takeEvent toggle kind ju a lost s) := by
  have back := h.returnIf lost a
  unfold Machine.takeEvent
  dsimp only
  split
  · exact back.repeatAnswer a
  · split
    · exact back
    · exact ((hju _ a back).refreshIdle a).sendAnswer a _

theorem Moves.stationReply (addr : Nat) (f : Addr → Bool → State → State)
    (hf : ∀ a lost t, Moves r t → Moves r (f a lost t)) : Moves r (stationReply addr s f) := by
  unfold Machine.stationReply
  split
  next a sent _ =>
    refine Moves.endExchange ?_
    split
    · exact h.validReply a sent _ (hf a)
    · exact h.missPoll a
  next => exact h.probeTurn _
  next => exact h.probeTurn _
  next => exact h.probeTurn _
  next => exact h

theorem Moves.garbled : Moves r (garbled s) := by
  unfold Machine.garbled
  split
  · exact (h.missPoll _).endExchange
  · exact h.probeTurn _

theorem Moves.missed : Moves r (missed s) := by
  unfold Machine.missed
  split
  · exact (h.missPoll _).endExchange
  · exact h.probeTurn _

/-! ### Requests -/

theorem Moves.endJob (addr : Nat) : Moves r (endJob addr s).state := by
  unfold Machine.endJob
  split
  next => exact h
  next a _ =>
    split
    iterate 3 next => exact h
    next hs => exact h.declineToSlot a _ (.inl hs)
    iterate 4 next => exact h.forceClose a
    next => exact h

theorem Moves.setTimers (v : PerTimer (Option Nat)) : Moves r (setTimers v s).state := h.links

theorem Moves.setAccount (n : AccountNo) (x : Account) (hs : x.status = (s.accounts.get n).status := by rfl)
    (hh : x.holdsTotal = (s.accounts.get n).holdsTotal := by rfl)
    (ho : x.openJobs = (s.accounts.get n).openJobs := by rfl) :
    Moves r (setAccount s n x) := h.move (.account n x hs hh ho)

theorem Moves.adjustAccount (account : Nat) (delta : Int) (reason : Nat) :
    Moves r (adjustAccount account delta reason s).state := by
  unfold Machine.adjustAccount
  split
  next => exact h
  next n _ =>
    split
    · exact h
    · split
      · exact h
      · split
        · exact h
        · next room =>
          have written := (h.setAccount n { s.accounts.get n with
            balance := saturate ((s.accounts.get n).balance + delta), changed := true }).move
            (.record (.adjust { account := n, requested := delta
                                applied := saturate ((s.accounts.get n).balance + delta) - (s.accounts.get n).balance
                                reason, balance := saturate ((s.accounts.get n).balance + delta) })
              (show journalHasRoom s = true by simpa using room))
          refine Moves.noticeLevel ?_
          split
          · exact written.retryAccount n
          · exact written

theorem Moves.acknowledgeJournal (sequence : Nat) : Moves r (acknowledgeJournal sequence s).state := by
  unfold Machine.acknowledgeJournal
  split
  · exact h
  · split
    next => exact h
    next =>
      dsimp only
      split
      · exact h
      · exact h.move (.acknowledged _)

theorem Moves.writeAccount (p : AccountPayload) : Moves r (writeAccount p s).state := by
  unfold Machine.writeAccount
  split
  next n st plan rights hn hst _ _ =>
    split
    · exact h
    · dsimp only
      split
      · exact h
      · next hjobs =>
        have none : (s.accounts.get n).openJobs = 0 := by simpa using hjobs
        have status : st = .openAccount ∨ st = .suspended := by
          unfold loadedStatusOf at hst
          split at hst <;> cases hst <;> simp
        exact h.move (.accountWritten n _ (regularNo_eq_some.1 hn).2 none none (.inl rfl) (.inr status))
  next => exact h

theorem Moves.setAccountLimits (account : Nat) (limit plan discount : Option Nat) (rights : Option Byte) :
    Moves r (setAccountLimits account limit plan discount rights s).state := by
  unfold Machine.setAccountLimits
  split
  next n _ _ _ _ _ =>
    dsimp only
    split
    · exact h
    · exact (h.setAccount n _).retryIfRisen _ n
  next => exact h

theorem Moves.unloadAccount (n : AccountNo) (hn : n.val < 480) : Moves r (unloadAccount n s).state := by
  unfold Machine.unloadAccount
  dsimp only
  split
  · exact h
  · next hjobs =>
    split
    · exact h
    · exact h.move (.accountWritten n _ hn (by simpa using hjobs) rfl (.inr rfl) (.inl rfl))

theorem Moves.changeStatus (n : AccountNo) (st : AccountStatus) (hn : n.val < 480)
    (hst : st = .openAccount ∨ st = .suspended) : Moves r (changeStatus n st s).state := by
  unfold Machine.changeStatus
  dsimp only
  split
  · exact h
  · next hu =>
    split
    · exact h
    · have changed := h.move (.accountStatus n st hn hu hst)
      change Moves r (if _ then _ else _)
      split
      · exact changed.retryAccount n
      · exact changed

end

theorem regularStatusOf_some {n : Nat} {st : AccountStatus} (h : regularStatusOf n = some st) :
    st = .unloaded ∨ st = .openAccount ∨ st = .suspended := by
  unfold regularStatusOf at h
  split at h <;> cases h <;> simp

section
variable {r s : State} (h : Moves r s)
include h

theorem Moves.setAccountStatus (account status : Nat) : Moves r (setAccountStatus account status s).state := by
  unfold Machine.setAccountStatus
  split
  next n hn _ => exact h.unloadAccount n (regularNo_eq_some.1 hn).2
  next n st other hn hst =>
    refine h.changeStatus n st (regularNo_eq_some.1 hn).2 ?_
    rcases regularStatusOf_some hst with rfl | e
    · exact (other rfl).elim
    · exact e
  next => exact h

theorem Moves.clearChanged (n : AccountNo) : Moves r (clearChanged s n) := h.setAccount n _

theorem Moves.changedAccounts : Moves r (changedAccounts s).state := by
  simp only [Machine.changedAccounts, accept_state]
  exact h.foldl (fun _ n h => h.clearChanged n) _

theorem Moves.writeCard (p : CardPayload) : Moves r (writeCard p s).state := by
  unfold Machine.writeCard
  split
  next n ceiling gated hn _ _ =>
    split
    · exact h
    · next ok =>
      have range : cardInRange p.card = true := by simp_all
      split
      next => exact h
      next w hw => exact h.move (.cardStored ⟨p.card, n, ceiling, gated⟩ w range (regularNo_eq_some.1 hn).2 hw)
  next => exact h

theorem Moves.removeCard (card : Nat) : Moves r (removeCard card s).state := by
  unfold Machine.removeCard
  split
  · exact h
  · split
    · exact h
    · exact h.move (.cardFreed _ _)

end

/-- A payload in range has its minimum charge at most its default hold (R20). -/
theorem m_le_h_of_planFieldsOk {p : PlanPayload} (h : planFieldsOk p = true) : p.m ≤ p.h := by
  simp [planFieldsOk] at h
  exact h.2

section
variable {r s : State} (h : Moves r s)
include h

theorem Moves.writePlan (p : PlanPayload) : Moves r (writePlan p s).state := by
  unfold Machine.writePlan
  split
  next n load _ _ =>
    split
    · exact h
    · next ok =>
      split
      · exact h
      · next free =>
        have none : (s.plans.get n).captures = 0 := by simpa using free
        cases load with
        | false => exact h.move (.plan n Plan.reset none rfl (by simp [Plan.reset]))
        | true => exact h.move (.plan n (loadedPlan p) none rfl fun _ => m_le_h_of_planFieldsOk (by simpa using ok))
  next => exact h

theorem Moves.rescanFloor : Moves r (rescanFloor s).state := by
  unfold Machine.rescanFloor
  split
  · exact h
  · split <;> exact h.links

theorem Moves.openWindow (table start count : Nat) : Moves r (openWindow table start count s).state := by
  unfold Machine.openWindow
  split
  · exact h
  · split
    · exact h
    · exact h.links

theorem Moves.windowWrite (t : WindowTable) (index : Nat) (record : WindowRecord) (x : Reply)
    (hx : windowWrite t index record s = some x) : Moves r x.state := by
  unfold Machine.windowWrite at hx
  split at hx
  next p =>
    cases hx
    split
    · exact h.writeAccount p
    · exact h
  next p => cases hx; exact h.writeCard p
  next p =>
    cases hx
    split
    · exact h.writePlan p
    · exact h
  next => cases hx

theorem Moves.windowData (index : Nat) (record : WindowRecord) : Moves r (windowData index record s).state := by
  unfold Machine.windowData
  split
  next => exact h
  next w _ =>
    split
    · exact h
    · split
      next => exact h.links
      next x hx =>
        exact (h.windowWrite w.table index record x hx).links

theorem Moves.panelText (dest : Nat) (p : PanelPayload) : Moves r (panelText dest p s).state := by
  unfold Machine.panelText
  split
  · exact h.links
  · split
    · exact h
    · split
      · exact h.foldl (fun _ a h => h.placePanel a p) _
      · split
        · unfold panelToOne
          split
          · exact h
          · split
            · exact h.placePanel _ p
            · exact h
        · exact h

theorem Moves.presetMeters (addr : Nat) (v : Meters (Option Nat)) : Moves r (presetMeters addr v s).state := by
  unfold Machine.presetMeters
  split
  · exact h
  · split
    · exact h
    · exact h.setMeters _ _

theorem Moves.changeMode (m : ShopMode) : Moves r (changeMode m s).state := by
  have moded : Moves r { s with mode := m } := h.links
  have forced (as : List Addr) : Moves r (forceAll (endAuthorizations { s with mode := m }) as) :=
    ((moved_ended moded).tickOrder as).foldl (fun _ a h => h.forceClose a) _
  unfold Machine.changeMode
  change Moves r (if _ then _ else _)
  split
  · exact (forced _).foldl (fun _ a h => h.takeRest a) _
  · exact forced _
where
  moved_ended {t : State} (h : Moves r t) : Moves r (endAuthorizations t) := h.tail .endedAll

theorem Moves.setMode (mode : Nat) : Moves r (setMode mode s).state := by
  unfold Machine.setMode
  split
  · exact h
  · split
    · exact h
    · exact h.changeMode _

theorem Moves.setFreeVend (value : Nat) : Moves r (setFreeVend value s).state := by
  unfold Machine.setFreeVend
  split
  · exact h
  · exact h.links

theorem Moves.disableStation (a : Addr) : Moves r (disableStation s a) := by
  unfold Machine.disableStation
  split
  iterate 2 next => exact h
  next => exact h.takeRest a
  next hs => exact h.declineToSlot a _ (.inl hs)
  iterate 4 next => exact h.forceClose a
  next => exact h

theorem Moves.setStationEnable (addr value : Nat) : Moves r (setStationEnable addr value s).state := by
  unfold Machine.setStationEnable
  split
  next a b _ _ =>
    split
    · exact h
    · have set : Moves r { s with adminEnable := s.adminEnable.set a b } :=
        h.links
      change Moves r (if _ then _ else _)
      split
      · unfold enableStation
        split
        · exact set.takeRest a
        · exact set
      · exact set.disableStation a
  next => exact h

end

end Sys2Proof.Machine

namespace Sys2Proof.Machine

set_option Elab.async false

/-! ### Resets -/

theorem takeOff_stations (s : State) (a : Addr) (reason : EndReason) (j : Job) :
    (takeOff s a reason j).stations = s.stations.set a { s.stations.get a with
      state := restState s a, job := none, remembered := none, pendingEnd := none, wanted := none, timer := none } := by
  obtain ⟨w, e⟩ := withdrawResume_eq (settle s a reason j) a
  have rest : restState { settle s a reason j with
      awaiting := w
      presence := (settle s a reason j).presence.set a { (settle s a reason j).presence.get a with resume := false } } a
      = restState s a := by simp [restState, effectiveEnable, settle, writeRecord]
  simp only [takeOff, e, clearStation, enter_stations, setStation_stations, Table.get_set_self, Table.set_set]
  rw [← rest]
  rfl

theorem closeQuiet_stations (s : State) (a : Addr) (reason : EndReason) (j : Job) :
    (closeQuiet s a reason j).stations = s.stations.set a { s.stations.get a with
      state := restState s a, job := none, remembered := none, pendingEnd := none, wanted := none, timer := none } := by
  have lost (t : State) : (closeAtLost t a).stations = t.stations := by unfold closeAtLost; split <;> rfl
  have left (t : State) (x : StationState) : (noticeLeavingJam t a x).stations = t.stations := by
    unfold noticeLeavingJam; split <;> rfl
  change (noticeLeavingJam (closeAtLost (takeOff _ a reason _) a) a _).stations = _
  rw [left, lost, takeOff_stations]
  rfl

/-- No station in an open state is left with a job at this address. -/
def Closed (s : State) (a : Addr) : Prop := hasOpenJob (s.stations.get a).state = true → jobAt s a = none

theorem closed_of_closeJob (s : State) (a b : Addr) (reason : EndReason) (h : b = a ∨ Closed s b) :
    Closed (closeJob s a reason false).1 b := by
  unfold closeJob
  split
  next none =>
    rcases h with rfl | h
    · exact fun _ => none
    · exact h
  next j _ =>
    simp only [Bool.false_and, Bool.false_eq_true, if_false]
    unfold Closed jobAt
    rw [closeQuiet_stations]
    by_cases e : b = a
    · subst e; simp
    · simp only [Table.get_set, e, if_false]
      exact h.resolve_left e

theorem closed_of_closeAll (s : State) (a : Addr) : Closed (closeAll s) a := by
  have fold (l : List Addr) (t : State) (h : a ∈ l ∨ Closed t a) :
      Closed (l.foldl (fun s b => (closeJob s b .controllerReset false).1) t) a := by
    induction l generalizing t with
    | nil => exact h.resolve_left (List.not_mem_nil)
    | cons b l ih =>
      rcases h with h | h
      · rcases List.mem_cons.1 h with rfl | h
        · exact ih _ (.inr (closed_of_closeJob t a a _ (.inl rfl)))
        · exact ih _ (.inl h)
      · exact ih _ (.inr (closed_of_closeJob t b a _ (.inr h)))
  apply fold
  by_cases o : hasOpenJob (s.stations.get a).state = true
  · exact .inl (by simp [openAddrs, mem_allAddrs, o])
  · obtain ⟨k, e⟩ := tickOrder_eq s (openAddrs s)
    exact .inr fun h => absurd (by rw [e] at h; exact h) o

section
variable {r s : State} (h : Moves r s)
include h

theorem Moves.resetFloor : Moves r (floorDown (freeChannels (closeAll s))) := by
  have all : Moves r (closeAll s) := (h.tickOrder _).foldl (fun _ a h => h.closeJob a _ false) _
  exact all.move (.floorDown (closed_of_closeAll s))

theorem Moves.fullReset (u : State) : Moves r (fullReset u) := h.move (.reset ⟨rfl, rfl, rfl, rfl, rfl, rfl, rfl, rfl, rfl, rfl, rfl⟩)

/-! ### Transmission -/

theorem Moves.noticeSent (e : NoticeEntry) : Moves r (noticeSent s e) := by
  cases e with
  | stationStatus a => exact h.setStation a _
  | authRequest _ => exact h
  | journalLevel => exact h

end

/-! ### Every command -/

theorem moves_of_whenRunning {s t : State} {f : State → State} (ht : whenRunning s f = .next t)
    (hf : Moves s (f s)) : Moves s t := by
  unfold whenRunning at ht
  cases ht
  split
  · exact .refl s
  · exact hf

theorem moves_of_request {k : OfficeKind} {req : Nat} {s t : State} {f : State → Reply} (ht : request k req s f = .next t)
    (hf : ∀ {u : State}, Moves s u → Moves s (f u).state) : Moves s t :=
  moves_of_whenRunning ht ((hf ((Moves.refl s).links)).respond _ _ _ _)

theorem moves_of_expire {k : TimerKind} {addr : Nat} {s t : State} {f : State → Addr → State}
    (ht : expire k addr s f = .next t)
    (hf : ∀ a : Addr, (s.stations.get a).state = timerState k → Moves s (f s a)) : Moves s t := by
  refine moves_of_whenRunning ht ?_
  unfold atAddr
  split
  next a _ =>
    dsimp only
    split
    next runs => exact hf a (by simp_all [timerRuns])
    next => exact .refl s
  next => exact .refl s

theorem moves_of_event {addr : Nat} {s : State} (toggle : Bool) (kind : EventKind)
    {ju : State → Addr → EventResult} (hju : ∀ t b, Moves s t → Moves s (ju t b).state) :
    Moves s (stationReply addr s (takeEvent toggle kind ju)) :=
  (Moves.refl s).stationReply addr _ fun a lost _ h => h.takeEvent toggle kind ju hju a lost

/-- Every command is made of moves. -/
theorem exec_moves {c : Instr} {s t : State} (ht : exec c s = .next t) : Moves s t := by
  have start := Moves.refl s
  cases c with
  | identify _ => exact moves_of_request ht fun h => h
  | readStatus _ => exact moves_of_request ht fun h => h
  | readStation _ addr =>
    refine moves_of_request ht fun h => ?_
    unfold readStation
    split <;> exact h
  | writeAccount _ p => exact moves_of_request ht fun h => h.writeAccount p
  | setAccountLimits _ n l p d x => exact moves_of_request ht fun h => h.setAccountLimits n l p d x
  | setAccountStatus _ n st => exact moves_of_request ht fun h => h.setAccountStatus n st
  | readAccount _ _ =>
    refine moves_of_request ht fun h => ?_
    unfold readAccount
    split <;> exact h
  | changedAccounts _ => exact moves_of_request ht fun h => h.changedAccounts
  | adjustAccount _ n d why => exact moves_of_request ht fun h => h.adjustAccount n d why
  | writeCard _ p => exact moves_of_request ht fun h => h.writeCard p
  | removeCard _ n => exact moves_of_request ht fun h => h.removeCard n
  | readCard _ _ =>
    refine moves_of_request ht fun h => ?_
    unfold readCard
    split
    · exact h
    · split <;> exact h
  | writePlan _ p => exact moves_of_request ht fun h => h.writePlan p
  | readPlan _ _ =>
    refine moves_of_request ht fun h => ?_
    unfold readPlan
    split <;> exact h
  | approveAccount _ tag n hold => exact moves_of_request ht fun h => h.approveAccount tag n hold
  | approveGuest _ tag amount plan x => exact moves_of_request ht fun h => h.approveGuest tag amount plan x
  | decline _ tag why => exact moves_of_request ht fun h => h.declineAnswer tag why
  | endJob _ addr => exact moves_of_request ht fun h => h.endJob addr
  | setTimers _ v => exact moves_of_request ht fun h => h.setTimers v
  | readJournal _ => exact moves_of_request ht fun h => h
  | acknowledgeJournal _ n => exact moves_of_request ht fun h => h.acknowledgeJournal n
  | readMeters _ _ =>
    refine moves_of_request ht fun h => ?_
    unfold readMeters
    split <;> exact h
  | presetMeters _ addr v => exact moves_of_request ht fun h => h.presetMeters addr v
  | setMode _ m => exact moves_of_request ht fun h => h.setMode m
  | setFreeVend _ v => exact moves_of_request ht fun h => h.setFreeVend v
  | setStationEnable _ addr v => exact moves_of_request ht fun h => h.setStationEnable addr v
  | rescanFloor _ => exact moves_of_request ht fun h => h.rescanFloor
  | pause _ =>
    rw [exec, execPause] at ht
    exact moves_of_request ht fun h => h.links
  | unpause _ =>
    rw [exec, execUnpause] at ht
    exact moves_of_request ht fun h => h.links
  | openWindow _ x y z => exact moves_of_request ht fun h => h.openWindow x y z
  | windowData _ n x =>
    rw [exec, execWindowData] at ht
    exact moves_of_whenRunning ht ((start.windowData n x).respond _ _ _ _)
  | resetFull _ =>
    rw [exec, execResetFull] at ht
    exact moves_of_request ht fun h => h.fullReset _
  | resetFloor _ =>
    rw [exec, execResetFloor] at ht
    exact moves_of_request ht fun h => h.resetFloor
  | panelText _ dest p =>
    rw [exec, execPanelText] at ht
    exact moves_of_whenRunning ht ((start.panelText dest p).respond _ _ _ _)
  | discardedFrame =>
    rw [exec, execDiscardedFrame] at ht
    exact moves_of_whenRunning ht start
  | badRequestFrame dest kind _ =>
    rw [exec, execBadRequestFrame] at ht
    refine moves_of_whenRunning ht (Moves.respond ?_ _ _ _ _)
    split
    · exact start.links
    · exact start
  | resetPinAssert =>
    cases ht
    exact start.move (.reset ⟨rfl, rfl, rfl, rfl, rfl, rfl, rfl, rfl, rfl, rfl, rfl⟩)
  | resetPinRelease =>
    cases ht
    split
    · exact start.fullReset _
    · exact start
  | sendResponse =>
    rw [exec, execSendResponse] at ht
    refine moves_of_whenRunning ht ?_
    split
    · exact start
    · exact start.links
  | sendNotice =>
    rw [exec, execSendNotice] at ht
    refine moves_of_whenRunning ht ?_
    split
    · exact start
    · split
      next => exact start
      next e q hq => exact ((start.move (.noticeSent e q hq)).links).noticeSent e
  | visit =>
    rw [exec, execVisit] at ht
    refine moves_of_whenRunning ht ?_
    split
    · split
      · exact start.links
      · exact start
    · exact start
  | sweepReply x =>
    rw [exec, execSweepReply] at ht
    refine moves_of_whenRunning ht ?_
    split
    · exact start.probeTurn _
    · exact start
  | probeReply x =>
    rw [exec, execProbeReply] at ht
    refine moves_of_whenRunning ht ?_
    split
    · exact start.probeTurn _
    · exact start
  | nothing addr =>
    rw [exec, execNothing] at ht
    exact moves_of_whenRunning ht (start.stationReply addr _ fun a lost _ h => h.returnIf lost a)
  | hello addr token caps =>
    rw [exec, execHello] at ht
    exact moves_of_whenRunning ht (start.stationReply addr _ fun a lost _ h => h.takeHello token caps a lost)
  | garbledReply =>
    rw [exec, execGarbledReply] at ht
    exact moves_of_whenRunning ht start.garbled
  | missedReply =>
    rw [exec, execMissedReply] at ht
    exact moves_of_whenRunning ht start.missed
  | card _ toggle n =>
    rw [exec, execCard] at ht
    refine moves_of_whenRunning ht ?_
    split
    · exact moves_of_event toggle _ fun _ a h => h.takeCard n a
    · exact start.garbled
  | cancel _ toggle =>
    rw [exec, execCancel] at ht
    exact moves_of_whenRunning ht (moves_of_event toggle _ fun _ a h => h.takeCancel a)
  | feed _ toggle n x =>
    rw [exec, execFeed] at ht
    exact moves_of_whenRunning ht (moves_of_event toggle _ fun _ a h => h.takeFeed n x a)
  | delivered _ toggle n =>
    rw [exec, execDelivered] at ht
    exact moves_of_whenRunning ht (moves_of_event toggle _ fun _ a h => h.takeDelivered n a)
  | jam _ toggle x =>
    rw [exec, execJam] at ht
    exact moves_of_whenRunning ht (moves_of_event toggle _ fun _ a h => h.takeJam _ a)
  | recovered _ toggle n =>
    rw [exec, execRecovered] at ht
    exact moves_of_whenRunning ht (moves_of_event toggle _ fun _ a h => h.takeRecovered n a)
  | status _ toggle f =>
    rw [exec, execStatus] at ht
    exact moves_of_whenRunning ht (moves_of_event toggle _ fun _ a h => h.takeStatus f a)
  | finish _ toggle =>
    rw [exec, execFinish] at ht
    exact moves_of_whenRunning ht (moves_of_event toggle _ fun _ a h => h.takeFinish a)
  | authorizationTimerExpiry _ =>
    rw [exec, execAuthorizationTimerExpiry] at ht
    exact moves_of_expire ht fun a hs => start.declineToSlot a _ (.inl hs)
  | idleTimerExpiry _ =>
    rw [exec, execIdleTimerExpiry] at ht
    exact moves_of_expire ht fun a hs => start.beginClosingToSlot a _ (by rw [hs]; rfl)
  | holdWaitTimerExpiry _ =>
    rw [exec, execHoldWaitTimerExpiry] at ht
    exact moves_of_expire ht fun a hs => start.beginClosingToSlot a _ (by rw [hs]; rfl)
  | jamTimerExpiry _ =>
    rw [exec, execJamTimerExpiry] at ht
    exact moves_of_expire ht fun a _ => start.closeToSlot a _
  | drainTimerExpiry _ =>
    rw [exec, execDrainTimerExpiry] at ht
    exact moves_of_expire ht fun a _ => start.closeToSlot a _
  | reconnectGraceExpiry _ =>
    rw [exec, execReconnectGraceExpiry] at ht
    exact moves_of_expire ht fun a _ => start.closeToSlot a _
  | lossTimerExpiry addr =>
    rw [exec, execLossTimerExpiry] at ht
    refine moves_of_whenRunning ht ?_
    unfold atAddr
    split
    · dsimp only
      split
      · exact start.foundMissing _ _
      · exact start
    · exact start
  | absentProbe =>
    rw [exec, execAbsentProbe] at ht
    refine moves_of_whenRunning ht ?_
    split
    · split
      · exact start.links
      · exact start
    · exact start

/-- A step is made of moves. -/
theorem step_moves {s t : State} (h : step s = .next t) : Moves s t := by
  unfold step at h
  split at h
  next =>
    cases h
    exact Moves.tick s
  next c rest _ =>
    exact Relation.ReflTransGen.trans ((Moves.refl s).links (t := { s with pending := rest })) (exec_moves h)

/-- A law that every move keeps is kept by every step. -/
theorem step_keeps {P : State → Prop} (keep : ∀ s t, Move s t → P s → P t) {s t : State} (h : step s = .next t)
    (hs : P s) : P t := by
  have moves := step_moves h
  clear h
  induction moves with
  | refl => exact hs
  | tail _ m ih => exact keep _ _ m ih

end Sys2Proof.Machine

namespace Sys2Proof.Machine

set_option Elab.async false

/-! ## The tables in order: notices, cards, sequence numbers (R12, R14, R118, R159) -/

/-! ### Notices by subject -/

/-- Two notices have one subject when they are AUTH_REQUESTs of one channel, STATION_STATUSes of one station, or both
JOURNAL_LEVEL (R159). -/
theorem sameSubject_iff (x y : NoticeEntry) : sameSubject x y = true ↔
    (∃ r u : AuthRequest, x = .authRequest r ∧ y = .authRequest u ∧ r.tag.channel = u.tag.channel)
      ∨ (∃ a : Addr, x = .stationStatus a ∧ y = .stationStatus a) ∨ (x = .journalLevel ∧ y = .journalLevel) := by
  constructor
  · cases x <;> cases y <;> simp [sameSubject]
    exact Eq.symm
  · rintro (⟨r, u, rfl, rfl, e⟩ | ⟨a, rfl, rfl⟩ | ⟨rfl, rfl⟩) <;> simp [sameSubject]
    exact e

/-- What has the subject of one of two notices with one subject has that of the other. -/
theorem sameSubject_congr {x y : NoticeEntry} (h : sameSubject x y = true) (z : NoticeEntry) :
    sameSubject x z = sameSubject y z := by
  rcases (sameSubject_iff x y).1 h with ⟨r, u, rfl, rfl, e⟩ | ⟨a, rfl, rfl⟩ | ⟨rfl, rfl⟩
  · cases z <;> simp [sameSubject, e]
  · rfl
  · rfl

/-- A notice whose subject is not queued joins at the tail (R159). -/
theorem placeIn_of_new (n : NoticeEntry) (q : List NoticeEntry) (h : ∀ e ∈ q, sameSubject e n = false) :
    placeIn n q = q ++ [n] := by
  induction q with
  | nil => rfl
  | cons e q ih =>
    obtain ⟨he, hq⟩ := List.forall_mem_cons.1 h
    simp [placeIn, he, ih hq]

/-- A notice whose subject is queued takes the place of that entry (R159). -/
theorem placeIn_of_queued (n e : NoticeEntry) (q r : List NoticeEntry) (hq : ∀ d ∈ q, sameSubject d n = false)
    (he : sameSubject e n = true) : placeIn n (q ++ e :: r) = q ++ n :: r := by
  induction q with
  | nil => simp [placeIn, he]
  | cons d q ih =>
    obtain ⟨hd, hq⟩ := List.forall_mem_cons.1 hq
    simp [placeIn, hd, ih hq]

/-- Placing a notice keeps one notice a subject. -/
theorem pairwise_placeIn (n : NoticeEntry) {q : List NoticeEntry}
    (h : q.Pairwise fun x y => sameSubject x y = false) :
    (placeIn n q).Pairwise fun x y => sameSubject x y = false := by
  induction q with
  | nil => exact List.pairwise_singleton _ _
  | cons e q ih =>
    obtain ⟨he, hq⟩ := List.pairwise_cons.1 h
    unfold placeIn
    split
    next same => exact List.pairwise_cons.2 ⟨fun x hx => (sameSubject_congr same x) ▸ he x hx, hq⟩
    next other =>
      refine List.pairwise_cons.2 ⟨fun x hx => ?_, ih hq⟩
      rcases mem_placeIn hx with rfl | hx
      · simpa using other
      · exact he x hx

/-! ### Operations that place notices and leave cards and journal alone -/

/-- Between two states notices are placed, and cards, journal and next sequence number are the same. -/
structure Placed (s t : State) : Prop where
  cards   : t.cards = s.cards
  journal : t.journal = s.journal
  nextSeq : t.nextSeq = s.nextSeq
  notices : ∃ ns : List NoticeEntry, t.notices = ns.foldl (fun q n => placeIn n q) s.notices

theorem Placed.of_eq {s t : State} (cards : t.cards = s.cards := by rfl) (journal : t.journal = s.journal := by rfl)
    (nextSeq : t.nextSeq = s.nextSeq := by rfl) (notices : t.notices = s.notices := by rfl) : Placed s t :=
  ⟨cards, journal, nextSeq, [], notices⟩

theorem Placed.trans {s t u : State} (h : Placed s t) (g : Placed t u) : Placed s u := by
  obtain ⟨ns, hn⟩ := h.notices
  obtain ⟨ms, hm⟩ := g.notices
  exact ⟨g.cards.trans h.cards, g.journal.trans h.journal, g.nextSeq.trans h.nextSeq, ns ++ ms,
    by rw [hm, hn, List.foldl_append]⟩

theorem placed_setPlan (s : State) (p : PlanNo) (x : Plan) : Placed s (setPlan s p x) := .of_eq

theorem placed_setStation (s : State) (a : Addr) (x : Station) : Placed s (setStation s a x) := .of_eq

theorem placed_enter (s : State) (a : Addr) (st : StationState) : Placed s (enter s a st) := .of_eq

theorem placed_startTimer (s : State) (a : Addr) (k : TimerKind) : Placed s (startTimer s a k) := .of_eq

theorem placed_setPresence (s : State) (a : Addr) (p : PresenceRecord) : Placed s (setPresence s a p) := .of_eq

theorem placed_forgetSent (s : State) (a : Addr) (m : Message) : Placed s (forgetSent s a m) := by
  obtain ⟨w, e⟩ := forgetSent_eq s a m
  rw [e]
  exact .of_eq

theorem placed_placeCardResult (s : State) (a : Addr) (x : CardResult) : Placed s (placeCardResult s a x) :=
  (placed_forgetSent s a .cardResult).trans (placed_setPresence _ _ _)

theorem placed_placeNotice (s : State) (n : NoticeEntry) : Placed s (placeNotice s n) := ⟨rfl, rfl, rfl, [n], rfl⟩

theorem placed_noticeLevel (s : State) : Placed s (noticeLevel s) := by
  unfold noticeLevel
  split
  · exact placed_placeNotice s _
  · exact .of_eq

theorem placed_takeChannel (s : State) (c : ChannelNo) (a : Addr) (card : AuthCard) :
    Placed s (takeChannel s c a card) :=
  Placed.trans (t := setChannel s c _) .of_eq (placed_placeNotice _ _)

theorem placed_headTakes (s : State) (c : ChannelNo) : Placed s (headTakes s c) := by
  unfold headTakes
  split
  next => exact .of_eq
  next q _ =>
    have left : Placed s { s with waitQueue := q } := .of_eq
    dsimp only
    split
    · exact left.trans (placed_takeChannel _ _ _ _)
    · exact left

theorem placed_releaseAuthorization (s : State) (a : Addr) : Placed s (releaseAuthorization s a) := by
  unfold releaseAuthorization
  split
  next c _ =>
    have freed : Placed s (setChannel s c { s.channels.get c with busy := none }) := .of_eq
    exact freed.trans (placed_headTakes _ c)
  next => exact .of_eq

theorem placed_endAuthorization (s : State) (a : Addr) : Placed s (endAuthorization s a) :=
  ((placed_releaseAuthorization s a).trans (placed_setStation _ _ _)).trans (placed_enter _ _ _)

theorem placed_endAuthorizations (s : State) : Placed s (endAuthorizations s) := by
  have fold (l : List Addr) (t : State) : Placed t (l.foldl (fun s a => declineToSlot s a .mode) t) := by
    induction l generalizing t with
    | nil => exact .of_eq
    | cons a l ih =>
      exact ((placed_endAuthorization t a).trans (placed_placeCardResult _ a _)).trans (ih _)
  exact Placed.trans (t := { s with waitQueue := [] }) .of_eq (fold _ _)

theorem placed_goOnline (s : State) (a : Addr) (card : AuthCard) : Placed s (goOnline s a card) := by
  have waiting := ((placed_enter s a .authorizing).trans (placed_setStation _ a
    { (enter s a .authorizing).stations.get a with authCard := some card })).trans (placed_startTimer _ a .authorization)
  unfold goOnline
  dsimp only
  split
  · exact waiting.trans (placed_takeChannel _ _ _ _)
  · exact waiting.trans .of_eq

theorem placed_reserved (s : State) : Placed s { s with reservations := s.reservations + 1 } := .of_eq

theorem placed_openJob (s : State) (a : Addr) (n : AccountNo) (guest : Bool) (ceiling : Option Nat) (hold : Nat) :
    Placed s (openJob s a n guest ceiling hold) := by
  have charged : Placed s (setAccount s n { s.accounts.get n with
      holdsTotal := (s.accounts.get n).holdsTotal + hold, openJobs := (s.accounts.get n).openJobs + 1 }) := .of_eq
  have released := charged.trans (placed_releaseAuthorization _ a)
  have noted := (released.trans (placed_reserved _)).trans (placed_noticeLevel _)
  exact ((noted.trans (placed_setPlan _ _ _)).trans (placed_setStation _ _ _)).trans (placed_enter _ _ _)

theorem placed_clearStation (s : State) (a : Addr) : Placed s (clearStation s a) :=
  (placed_setStation s a _).trans (placed_enter _ _ _)

theorem placed_withdrawResume (s : State) (a : Addr) : Placed s (withdrawResume s a) :=
  (placed_forgetSent s a .resume).trans (placed_setPresence _ _ _)

/-- A close writes one record and places no other change in journal, cards and notices. -/
theorem placed_takeOff (s : State) (a : Addr) (reason : EndReason) (j : Job) :
    ∃ b, Placed (writeRecord s b) (takeOff s a reason j) :=
  have settled : Placed (writeRecord s (.job (jobRecord a reason (s.plans.get j.plan).m j
      (settledAccount (s.accounts.get j.account) (chargeOf (s.plans.get j.plan).m j) j.hold)))) (settle s a reason j) :=
    .of_eq
  ⟨_, (settled.trans (placed_withdrawResume _ a)).trans (placed_clearStation _ a)⟩

/-- What a move may do to notices, cards and journal. -/
inductive OrderedChange (s : State) : State → Prop
  | placed {t : State} : Placed s t → OrderedChange s t
  | reset {t : State} : Placed State.reset t → OrderedChange s t
  | noticeSent (e : NoticeEntry) (q : List NoticeEntry) : s.notices = e :: q → OrderedChange s { s with notices := q }
  | record {t : State} (b : RecordBody) : Placed (writeRecord s b) t → OrderedChange s t
  | acknowledged (k : Nat) : OrderedChange s { s with journal := s.journal.drop k }
  | cardStored (e : CardEntry) (w : WayNo) : cardInRange e.card = true → e.account.val < 480 →
      writeWay s e.card = some w →
      OrderedChange s (setBucket s (bucketOf e.card) ((s.cards.get (bucketOf e.card)).set w (some e)))
  | cardFreed (b : BucketNo) (w : WayNo) : OrderedChange s (setBucket s b ((s.cards.get b).set w none))

theorem Move.orderedChange {s t : State} (m : Move s t) : OrderedChange s t := by
  cases m with
  | links e => exact .placed (.of_eq e.cards e.journal e.nextSeq e.notices)
  | reset e => exact .reset (.of_eq e.cards e.journal e.nextSeq e.notices)
  | notice n => exact .placed (placed_placeNotice s n)
  | noticeSent e q h => exact .noticeSent e q h
  | record b _ => exact .record b .of_eq
  | acknowledged k => exact .acknowledged k
  | cardStored e w hc ha hw => exact .cardStored e w hc ha hw
  | cardFreed b w => exact .cardFreed b w
  | online a card _ => exact .placed (placed_goOnline s a card)
  | ended a _ => exact .placed (placed_endAuthorization s a)
  | endedAll => exact .placed (placed_endAuthorizations s)
  | granted a n ceiling hold => exact .placed (placed_openJob s a n false ceiling hold)
  | guestGranted a n => exact .placed (Placed.trans (t := setAccount s n _) .of_eq (placed_openJob _ a n true none _))
  | settled a reason j _ =>
    obtain ⟨b, h⟩ := placed_takeOff s a reason j
    exact .record b h
  | _ => exact .placed .of_eq

/-! ### One notice a subject -/

theorem NoticeLaw.of_placed {s t : State} (h : Placed s t) (hs : NoticeLaw s) : NoticeLaw t := by
  obtain ⟨ns, e⟩ := h.notices
  unfold NoticeLaw at hs ⊢
  rw [e]
  generalize s.notices = q at hs
  clear e
  induction ns generalizing q with
  | nil => exact hs
  | cons n ns ih => exact ih _ (pairwise_placeIn n hs)

theorem NoticeLaw.move {s t : State} (m : Move s t) (h : NoticeLaw s) : NoticeLaw t := by
  cases m.orderedChange with
  | placed p => exact h.of_placed p
  | reset p => exact NoticeLaw.of_placed p List.Pairwise.nil
  | noticeSent e q he =>
    unfold NoticeLaw at h
    rw [he] at h
    exact h.of_cons
  | record b p => exact NoticeLaw.of_placed p h
  | acknowledged _ => exact h
  | cardStored _ _ => exact h
  | cardFreed _ _ => exact h

/-! ### Every card in its bucket, in one way -/

theorem cardInRange_iff {n : Nat} : cardInRange n = true ↔ 1 ≤ n ∧ n ≤ 9999999999999999999 := by
  unfold cardInRange
  rw [Bool.and_eq_true]
  exact and_congr decide_eq_true_iff decide_eq_true_iff

theorem mem_allWays (w : WayNo) : w ∈ allWays := by revert w; decide

/-- The way found for a card holds it. -/
theorem cardAt_of_wayOf {s : State} {card : Nat} {w : WayNo} (h : wayOf s card = some w) :
    ∃ e, cardAt s (bucketOf card) w = some e ∧ e.card = card := by
  have found := List.find?_some h
  unfold cardAt
  split at found
  next e he => exact ⟨e, he, by simpa using found⟩
  next => cases found

/-- No way is found for a card exactly when none of its bucket holds it. -/
theorem wayOf_eq_none {s : State} {card : Nat} :
    wayOf s card = none ↔ ∀ w : WayNo, (cardAt s (bucketOf card) w).map CardEntry.card ≠ some card := by
  unfold wayOf cardAt
  rw [List.find?_eq_none]
  constructor
  · intro h w
    have := h w (mem_allWays w)
    cases e : (s.cards.get (bucketOf card)).get w <;> simp_all
  · intro h w _
    have := h w
    cases e : (s.cards.get (bucketOf card)).get w <;> simp_all

/-- Under the card law the way of a card is the one that holds it. -/
theorem wayOf_of_cardAt {s : State} (law : CardLaw s) {w : WayNo} {e : CardEntry}
    (h : cardAt s (bucketOf e.card) w = some e) : wayOf s e.card = some w := by
  cases hw : wayOf s e.card with
  | none => exact absurd (by rw [h]; rfl) (wayOf_eq_none.1 hw w)
  | some v =>
    obtain ⟨f, hf, ef⟩ := cardAt_of_wayOf hw
    rw [law.2 _ _ _ _ _ hf h ef]

/-- Where WRITE CARD stores a card, no other way of its bucket holds it. -/
theorem other_ways_of_writeWay {s : State} (law : CardLaw s) {card : Nat} {w v : WayNo} {f : CardEntry}
    (hw : writeWay s card = some w) (hf : cardAt s (bucketOf card) v = some f) (hc : f.card = card) : v = w := by
  subst hc
  unfold writeWay at hw
  rw [wayOf_of_cardAt law hf] at hw
  exact Option.some.inj hw

theorem cardAt_setBucket (s : State) (b c : BucketNo) (w v : WayNo) (x : Option CardEntry) :
    cardAt (setBucket s b ((s.cards.get b).set w x)) c v = if c = b ∧ v = w then x else cardAt s c v := by
  unfold cardAt
  by_cases hc : c = b
  · subst hc
    by_cases hv : v = w
    · subst hv; simp
    · simp [hv, Table.get_set]
  · simp [hc, Table.get_set]

theorem CardLaw.of_cards {s t : State} (e : t.cards = s.cards) (h : CardLaw s) : CardLaw t := by
  unfold CardLaw cardAt at h ⊢
  rwa [e]

theorem cardLaw_reset : CardLaw State.reset := by
  have free (b : BucketNo) (w : WayNo) : cardAt State.reset b w = none := by simp [cardAt, State.reset]
  exact ⟨fun b w e h => (by simp [free] at h), fun b w v e f h => (by simp [free] at h)⟩

/-- Storing a card in the way WRITE CARD picks keeps the card law (R14). -/
theorem CardLaw.stored {s : State} (law : CardLaw s) {e : CardEntry} {w : WayNo} (hc : cardInRange e.card = true)
    (ha : e.account.val < 480) (hw : writeWay s e.card = some w) :
    CardLaw (setBucket s (bucketOf e.card) ((s.cards.get (bucketOf e.card)).set w (some e))) := by
  have alone (v : WayNo) (f : CardEntry) (hf : cardAt s (bucketOf e.card) v = some f) (same : f.card = e.card) :
      v = w := other_ways_of_writeWay law hw hf same
  constructor
  · intro b v f hf
    rw [cardAt_setBucket] at hf
    split at hf
    next at_w =>
      cases hf
      obtain ⟨low, high⟩ := cardInRange_iff.1 hc
      exact ⟨by rw [at_w.1]; rfl, low, high, by omega⟩
    next => exact law.1 b v f hf
  · intro b v u f g hf hg same
    rw [cardAt_setBucket] at hf hg
    split at hf <;> split at hg
    next hv hu => rw [hv.2, hu.2]
    next hv _ => cases hf; rw [hv.2, alone u g (hv.1 ▸ hg) same.symm]
    next _ hu => cases hg; rw [hu.2, alone v f (hu.1 ▸ hf) same]
    next => exact law.2 b v u f g hf hg same

theorem CardLaw.freed {s : State} (law : CardLaw s) (b : BucketNo) (w : WayNo) :
    CardLaw (setBucket s b ((s.cards.get b).set w none)) := by
  have kept (c : BucketNo) (v : WayNo) (f : CardEntry)
      (hf : cardAt (setBucket s b ((s.cards.get b).set w none)) c v = some f) : cardAt s c v = some f := by
    rw [cardAt_setBucket] at hf
    split at hf
    · cases hf
    · exact hf
  exact ⟨fun c v f hf => law.1 c v f (kept c v f hf),
    fun c v u f g hf hg => law.2 c v u f g (kept c v f hf) (kept c u g hg)⟩

theorem CardLaw.move {s t : State} (m : Move s t) (h : CardLaw s) : CardLaw t := by
  cases m.orderedChange with
  | placed p => exact h.of_cards p.cards
  | reset p => exact cardLaw_reset.of_cards p.cards
  | noticeSent _ _ _ => exact h
  | record b p => exact CardLaw.of_cards p.cards h
  | acknowledged _ => exact h
  | cardStored e w hc ha hw => exact h.stored hc ha hw
  | cardFreed b w => exact h.freed b w

/-! ### Sequence numbers without gaps -/

theorem SequenceLaw.of_journal {s t : State} (ej : t.journal = s.journal) (en : t.nextSeq = s.nextSeq)
    (h : SequenceLaw s) : SequenceLaw t := by
  unfold SequenceLaw at h ⊢
  rwa [ej, en]

theorem sequenceLaw_reset : SequenceLaw State.reset := by
  simp [SequenceLaw, State.reset]

theorem nextSequence_range {n : Nat} (h : n ≤ 65535) : 1 ≤ nextSequence n ∧ nextSequence n ≤ 65535 := by
  have last : Config.lastSequence = 65535 := rfl
  unfold nextSequence
  split <;> omega

theorem SequenceLaw.written {s : State} (h : SequenceLaw s) (b : RecordBody) : SequenceLaw (writeRecord s b) := by
  obtain ⟨records, low, high, chain⟩ := h
  refine ⟨?_, ?_, ?_, ?_⟩
  · intro r hr
    rcases List.mem_append.1 hr with hr | hr
    · exact records r hr
    · rw [List.mem_singleton.1 hr]
      exact ⟨low, high⟩
  · change _ ≤ nextSequence s.nextSeq
    exact (nextSequence_range high).1
  · exact (nextSequence_range high).2
  · simp only [writeRecord, List.map_append, List.map_cons, List.map_nil]
    rw [List.isChain_append]
    refine ⟨chain, List.isChain_singleton _, fun x hx y hy => ?_⟩
    simp only [List.getLast?_append, List.getLast?_singleton, Option.some_or, Option.mem_some_iff,
      List.head?_cons] at hx hy
    rw [← hx, ← hy]
    rfl

theorem SequenceLaw.acknowledged {s : State} (h : SequenceLaw s) (k : Nat) :
    SequenceLaw { s with journal := s.journal.drop k } := by
  obtain ⟨records, low, high, chain⟩ := h
  refine ⟨fun r hr => records r (List.mem_of_mem_drop hr), low, high, ?_⟩
  have suffix : ((s.journal.drop k).map JournalRecord.sequence ++ [s.nextSeq])
      <:+ (s.journal.map JournalRecord.sequence ++ [s.nextSeq]) := by
    refine ⟨(s.journal.take k).map JournalRecord.sequence, ?_⟩
    rw [← List.append_assoc, ← List.map_append, List.take_append_drop]
  exact chain.suffix suffix

theorem SequenceLaw.move {s t : State} (m : Move s t) (h : SequenceLaw s) : SequenceLaw t := by
  cases m.orderedChange with
  | placed p => exact h.of_journal p.journal p.nextSeq
  | reset p => exact sequenceLaw_reset.of_journal p.journal p.nextSeq
  | noticeSent _ _ _ => exact h
  | record b p => exact (h.written b).of_journal p.journal p.nextSeq
  | acknowledged k => exact h.acknowledged k
  | cardStored _ _ => exact h
  | cardFreed _ _ => exact h

/-- Settles O53: every move keeps the three laws, and `placeIn` and `sameSubject` are R159's. -/
theorem stepKeepsTablesInOrder : Obligations.StepKeepsTablesInOrder := by
  intro s t h
  exact ⟨step_keeps (fun _ _ => NoticeLaw.move) h, step_keeps (fun _ _ => CardLaw.move) h,
    step_keeps (fun _ _ => SequenceLaw.move) h, placeIn_of_new, placeIn_of_queued, sameSubject_iff⟩

end Sys2Proof.Machine

namespace Sys2Proof.Machine

set_option Elab.async false

/-! ## Channels and the wait queue (R28, R30, R32, R43) -/

/-! ### Places: who holds which channel, and who waits -/

/-- The stations `A` with an authorization in progress hold one channel or one queue place each, never both, no other
station holds either, and the queue is empty while a channel is FREE; `f` is the station of each channel, `q` the
queue. -/
structure PlaceLaw (A : Addr → Prop) (f : ChannelNo → Option Addr) (q : List Addr) : Prop where
  holder  : ∀ a : Addr, A a ↔ (∃ c, f c = some a) ∨ a ∈ q
  notBoth : ∀ (a : Addr) (c : ChannelNo), f c = some a → a ∉ q
  oneEach : ∀ (c d : ChannelNo) (a : Addr), f c = some a → f d = some a → c = d
  queue   : q.Nodup
  allBusy : q ≠ [] → ∀ c : ChannelNo, f c ≠ none

/-- Channel `c` given another station, or none. -/
def assign (f : ChannelNo → Option Addr) (c : ChannelNo) (x : Option Addr) : ChannelNo → Option Addr :=
  fun d => if d = c then x else f d

theorem assign_assign (f : ChannelNo → Option Addr) (c : ChannelNo) (x y : Option Addr) :
    assign (assign f c x) c y = assign f c y := by
  funext d
  unfold assign
  split <;> rfl

section
variable {A : Addr → Prop} {f : ChannelNo → Option Addr} {q : List Addr}

/-- A station that holds no channel leaves the queue. -/
theorem PlaceLaw.leave (h : PlaceLaw A f q) {a : Addr} (none : ∀ c, f c ≠ some a) :
    PlaceLaw (fun b => A b ∧ b ≠ a) f (q.filter (· != a)) where
  holder b := by
    rw [h.holder b, List.mem_filter]
    grind
  notBoth b c hc hb := h.notBoth b c hc (List.mem_filter.1 hb).1
  oneEach := h.oneEach
  queue := h.queue.filter _
  allBusy some := h.allBusy fun e => some (by rw [e]; rfl)

/-- A channel becomes FREE where nobody waits. -/
theorem PlaceLaw.free (h : PlaceLaw A f []) {a : Addr} {c : ChannelNo} (hc : f c = some a) :
    PlaceLaw (fun b => A b ∧ b ≠ a) (assign f c none) [] where
  holder b := by
    have := h.holder b
    have := fun d => h.oneEach c d a hc
    unfold assign
    grind
  notBoth := by simp
  oneEach d e b := by
    have := h.oneEach d e b
    unfold assign
    grind
  queue := List.nodup_nil
  allBusy := by simp

/-- The head of the queue takes a channel that another station gives up. -/
theorem PlaceLaw.handOver {b : Addr} (h : PlaceLaw A f (b :: q)) {a : Addr} {c : ChannelNo} (hc : f c = some a) :
    PlaceLaw (fun x => A x ∧ x ≠ a) (assign f c (some b)) q where
  holder x := by
    have := h.holder x
    have := h.notBoth a c hc
    have := fun d => h.oneEach c d a hc
    unfold assign
    grind
  notBoth x d := by
    have := h.notBoth x d
    have := h.queue
    unfold assign
    grind
  oneEach d e x := by
    have := h.oneEach d e x
    have := fun d hd => h.notBoth b d hd (List.mem_cons_self ..)
    unfold assign
    grind
  queue := h.queue.of_cons
  allBusy _ d := by
    have := h.allBusy (List.cons_ne_nil b q) d
    unfold assign
    grind

/-- A station takes a FREE channel. -/
theorem PlaceLaw.take (h : PlaceLaw A f q) {a : Addr} {c : ChannelNo} (hc : f c = none) (ha : ¬ A a) :
    PlaceLaw (fun b => A b ∨ b = a) (assign f c (some a)) q where
  holder b := by
    have := h.holder b
    unfold assign
    grind
  notBoth b d := by
    have := h.holder a
    have := h.notBoth b d
    unfold assign
    grind
  oneEach d e b := by
    have := h.holder a
    have := h.oneEach d e b
    unfold assign
    grind
  queue := h.queue
  allBusy some d := absurd hc (h.allBusy some c)

/-- A station joins the tail of the queue, every channel BUSY. -/
theorem PlaceLaw.join (h : PlaceLaw A f q) {a : Addr} (busy : ∀ c, f c ≠ none) (ha : ¬ A a) :
    PlaceLaw (fun b => A b ∨ b = a) f (q ++ [a]) where
  holder b := by
    have := h.holder b
    grind
  notBoth b c hc := by
    have := h.holder a
    have := h.notBoth b c hc
    grind
  oneEach := h.oneEach
  queue := by
    have := h.holder a
    exact List.nodup_append.2 ⟨h.queue, List.nodup_singleton a, by grind⟩
  allBusy _ := busy

/-- The queue emptied: those that hold a channel are left. -/
theorem PlaceLaw.emptied (h : PlaceLaw A f q) : PlaceLaw (fun a => ∃ c, f c = some a) f [] where
  holder a := by simp
  notBoth := by simp
  oneEach := h.oneEach
  queue := List.nodup_nil
  allBusy := by simp

end

/-! ### The law of stations, authorizations apart -/

/-- The law of stations with the authorizations in progress given by a predicate of their own: while SET MODE ends them
one after another, stations still in AUTHORIZING have lost their place in the wait queue. -/
structure SeatLaw (A : Addr → Prop) (s : State) : Prop where
  job    : ∀ a : Addr, (jobAt s a).isSome = hasOpenJob (s.stations.get a).state
  card   : ∀ a : Addr, (s.stations.get a).authCard.isSome = ((s.stations.get a).state == .authorizing)
  waits  : ∀ a : Addr, A a → (s.stations.get a).state = .authorizing
  places : PlaceLaw A (channelStation s) s.waitQueue

theorem stationLaw_iff {s : State} :
    StationLaw s ↔ SeatLaw (fun a => (s.stations.get a).state = .authorizing) s := by
  constructor
  · intro h
    exact ⟨h.job, h.card, fun _ w => w, h.holder, fun a c hc => h.notBoth a ⟨c, hc⟩,
      fun c d a hc hd => h.oneEach c d (by simp [hc]) (hc.trans hd.symm), h.queue, h.allBusy⟩
  · rintro ⟨job, card, _, holder, notBoth, oneEach, queue, allBusy⟩
    refine ⟨job, card, holder, fun a ⟨c, hc⟩ => notBoth a c hc, fun c d hc e => ?_, queue, allBusy⟩
    obtain ⟨a, ha⟩ := Option.ne_none_iff_exists'.1 hc
    exact oneEach c d a ha (e ▸ ha)

theorem SeatLaw.mono {A B : Addr → Prop} {s : State} (h : SeatLaw A s) (e : ∀ a, B a ↔ A a) : SeatLaw B s :=
  (funext fun a => propext (e a) : B = A) ▸ h

/-- What the law of stations reads of a state is the same in two states. -/
structure SameSeats (s t : State) : Prop where
  job      : ∀ a : Addr, (jobAt t a).isSome = (jobAt s a).isSome
  standing : ∀ a : Addr, SameStanding (s.stations.get a).state (t.stations.get a).state
  card     : ∀ a : Addr, (t.stations.get a).authCard.isSome = (s.stations.get a).authCard.isSome
  channels : channelStation t = channelStation s
  queue    : t.waitQueue = s.waitQueue

theorem channelStation_congr {s t : State} (h : t.channels = s.channels) : channelStation t = channelStation s := by
  funext c
  rw [channelStation, h]
  rfl

theorem SameSeats.of_eq {s t : State} (stations : t.stations = s.stations := by rfl)
    (channels : t.channels = s.channels := by rfl) (queue : t.waitQueue = s.waitQueue := by rfl) : SameSeats s t :=
  ⟨fun a => by rw [jobAt, stations]; rfl, fun a => by rw [stations]; exact .refl _, fun a => by rw [stations],
    channelStation_congr channels, queue⟩

/-- One station record replaced by one of the same standing. -/
theorem SameSeats.of_set {s t : State} {a : Addr} {r : Station} (stations : t.stations = s.stations.set a r)
    (standing : SameStanding (s.stations.get a).state r.state) (job : r.job.isSome = (jobAt s a).isSome)
    (card : r.authCard.isSome = (s.stations.get a).authCard.isSome)
    (channels : t.channels = s.channels := by rfl) (queue : t.waitQueue = s.waitQueue := by rfl) : SameSeats s t := by
  have self : t.stations.get a = r := by rw [stations, Table.get_set_self]
  have other (b : Addr) (e : b ≠ a) : t.stations.get b = s.stations.get b := by
    rw [stations, Table.get_set, if_neg e]
  refine ⟨fun b => ?_, fun b => ?_, fun b => ?_, channelStation_congr channels, queue⟩ <;>
    rcases eq_or_ne b a with rfl | e
  · rw [jobAt, self, job]
  · rw [jobAt, other b e]; rfl
  · rw [self]; exact standing
  · rw [other b e]; exact .refl _
  · rw [self, card]
  · rw [other b e]

theorem SeatLaw.congr {A : Addr → Prop} {s t : State} (h : SeatLaw A s) (e : SameSeats s t) : SeatLaw A t where
  job a := by rw [e.job, h.job, (e.standing a).2]
  card a := by
    rw [e.card, h.card, Bool.eq_iff_iff, beq_iff_eq, beq_iff_eq]
    exact (e.standing a).authorizing_iff
  waits a w := (e.standing a).authorizing_iff.1 (h.waits a w)
  places := by rw [e.channels, e.queue]; exact h.places

theorem StationLaw.congr {s t : State} (h : StationLaw s) (e : SameSeats s t) : StationLaw t :=
  stationLaw_iff.2 (((stationLaw_iff.1 h).congr e).mono fun a => (e.standing a).authorizing_iff.symm)

/-- A station record in which job and card fit the state. -/
def Seated (r : Station) : Prop :=
  r.job.isSome = hasOpenJob r.state ∧ r.authCard.isSome = (r.state == .authorizing)

/-- One station record replaced by one in which job and card fit the state, with the places that go with it. -/
theorem SeatLaw.seat {A B : Addr → Prop} {s t : State} (h : SeatLaw A s) {a : Addr} {r : Station}
    (stations : t.stations = s.stations.set a r) (seated : Seated r) (out : B a → r.state = .authorizing)
    (others : ∀ b, b ≠ a → B b → A b) (places : PlaceLaw B (channelStation t) t.waitQueue) : SeatLaw B t := by
  have self : t.stations.get a = r := by rw [stations, Table.get_set_self]
  have other (b : Addr) (e : b ≠ a) : t.stations.get b = s.stations.get b := by
    rw [stations, Table.get_set, if_neg e]
  refine ⟨fun b => ?_, fun b => ?_, fun b w => ?_, places⟩ <;> rcases eq_or_ne b a with rfl | e
  · rw [jobAt, self]; exact seated.1
  · rw [jobAt, other b e]; exact h.job b
  · rw [self]; exact seated.2
  · rw [other b e]; exact h.card b
  · rw [self]; exact out w
  · rw [other b e]; exact h.waits b (others b e w)

/-! ### Channels taken and released -/

theorem channelStation_setChannel (s : State) (c : ChannelNo) (x : Channel) :
    channelStation (setChannel s c x) = assign (channelStation s) c (x.busy.map AuthRecord.station) := by
  funext d
  simp only [channelStation, setChannel_channels, Table.get_set, assign]
  split <;> rfl

theorem channelStation_takeChannel (s : State) (c : ChannelNo) (a : Addr) (card : AuthCard) :
    channelStation (takeChannel s c a card) = assign (channelStation s) c (some a) :=
  channelStation_setChannel s c _

theorem channelStation_of_channelOf {s : State} {a : Addr} {c : ChannelNo} (h : channelOf s a = some c) :
    channelStation s c = some a := by
  obtain ⟨r, hr, e⟩ := channelOf_some h
  simp [channelStation, hr, e]

theorem channelStation_ne_of_channelOf {s : State} {a : Addr} (h : channelOf s a = none) (c : ChannelNo) :
    channelStation s c ≠ some a := by
  intro hc
  obtain ⟨r, hr, e⟩ := Option.map_eq_some_iff.1 hc
  exact channelOf_none h c r hr e

theorem channelStation_of_freeChannel {s : State} {c : ChannelNo} (h : freeChannel s = some c) :
    channelStation s c = none := by
  have := List.find?_some h
  simp_all [channelStation]

theorem channelStation_ne_of_freeChannel {s : State} (h : freeChannel s = none) (c : ChannelNo) :
    channelStation s c ≠ none := by
  have := List.find?_eq_none.1 h c (mem_allChannels c)
  simp_all [channelStation]

/-- Giving up an authorization changes channels, wait queue and notices only (R32). -/
theorem releaseAuthorization_eq (s : State) (a : Addr) :
    ∃ ch q ns, releaseAuthorization s a = { s with channels := ch, waitQueue := q, notices := ns } := by
  unfold releaseAuthorization
  split
  next c _ =>
    unfold releaseChannel headTakes
    split
    next => exact ⟨_, _, _, rfl⟩
    next b q _ =>
      dsimp only
      split
      next card _ =>
        have taken (t : State) : ∃ ch ns, takeChannel t c b card = { t with channels := ch, notices := ns } :=
          ⟨_, _, rfl⟩
        obtain ⟨ch, ns, e⟩ := taken { setChannel s c { s.channels.get c with busy := none } with waitQueue := q }
        rw [e]
        exact ⟨ch, q, ns, rfl⟩
      next => exact ⟨_, _, _, rfl⟩
  next => exact ⟨_, _, _, rfl⟩

@[simp] theorem releaseAuthorization_stations (s : State) (a : Addr) :
    (releaseAuthorization s a).stations = s.stations := by
  obtain ⟨_, _, _, e⟩ := releaseAuthorization_eq s a
  rw [e]

theorem headTakes_of_empty {s : State} {c : ChannelNo} (h : s.waitQueue = []) : headTakes s c = s := by
  unfold headTakes
  rw [h]

theorem headTakes_of_card {s : State} (c : ChannelNo) {a : Addr} {q : List Addr} {card : AuthCard}
    (h : s.waitQueue = a :: q) (hc : (s.stations.get a).authCard = some card) :
    channelStation (headTakes s c) = assign (channelStation s) c (some a) ∧ (headTakes s c).waitQueue = q := by
  have eq : headTakes s c = takeChannel { s with waitQueue := q } c a card := by
    unfold headTakes
    rw [h]
    simp only [hc]
  rw [eq]
  exact ⟨channelStation_takeChannel _ c a card, rfl⟩

/-- A station's place given up: its authorization is in progress no more, every other one still is (R30, R32). -/
theorem SeatLaw.placesReleased {A : Addr → Prop} {s : State} (h : SeatLaw A s) (a : Addr) :
    PlaceLaw (fun b => A b ∧ b ≠ a) (channelStation (releaseAuthorization s a))
      (releaseAuthorization s a).waitQueue := by
  have places := h.places
  unfold releaseAuthorization
  split
  next c hc =>
    have held := channelStation_of_channelOf hc
    unfold releaseChannel
    match full : s.waitQueue with
    | [] =>
      rw [headTakes_of_empty (by simpa using full), setChannel_waitQueue, channelStation_setChannel, full]
      exact (full ▸ places).free held
    | b :: q =>
      have waits : (s.stations.get b).state = .authorizing := h.waits b ((places.holder b).2 (.inr (by simp [full])))
      obtain ⟨card, hb⟩ := Option.isSome_iff_exists.1 ((h.card b).trans (by rw [waits]; rfl))
      have freed : channelStation (setChannel s c { s.channels.get c with busy := none }) =
          assign (channelStation s) c none := channelStation_setChannel s c _
      obtain ⟨channels, queue⟩ := headTakes_of_card (s := setChannel s c { s.channels.get c with busy := none }) c full hb
      rw [channels, queue, freed, assign_assign]
      exact (full ▸ places).handOver held
  next hc => exact places.leave (channelStation_ne_of_channelOf hc)

/-- A station gives up its place and takes a record out of AUTHORIZING. -/
theorem SeatLaw.released {A : Addr → Prop} {s t : State} (h : SeatLaw A s) {a : Addr} {r : Station}
    (stations : t.stations = s.stations.set a r) (seated : Seated r)
    (channels : t.channels = (releaseAuthorization s a).channels)
    (queue : t.waitQueue = (releaseAuthorization s a).waitQueue) : SeatLaw (fun b => A b ∧ b ≠ a) t := by
  refine h.seat stations seated (fun w => absurd rfl w.2) (fun b _ w => w.1) ?_
  rw [channelStation_congr channels, queue]
  exact h.placesReleased a

/-- A law with the authorizations but one, whose station is AUTHORIZING no more, is the law of stations. -/
theorem StationLaw.of_without {s t : State} {a : Addr} {r : Station} (stations : t.stations = s.stations.set a r)
    (out : r.state ≠ .authorizing) (h : SeatLaw (fun b => (s.stations.get b).state = .authorizing ∧ b ≠ a) t) :
    StationLaw t := by
  refine stationLaw_iff.2 (h.mono fun b => ?_)
  rw [stations, Table.get_set]
  split
  next e => simp [e, out]
  next e => simp [e]

/-! ### Authorizations begun and ended -/

theorem beq_authorizing_of_atRest {st : StationState} (h : atRest st = true) : (st == .authorizing) = false := by
  cases st <;> simp_all [atRest]

theorem hasOpenJob_of_atRest {st : StationState} (h : atRest st = true) : hasOpenJob st = false := by
  cases st <;> simp_all [atRest, hasOpenJob]

theorem job_none_of_not_open {A : Addr → Prop} {s : State} (h : SeatLaw A s) {a : Addr}
    (ho : hasOpenJob (s.stations.get a).state = false) : (s.stations.get a).job = none := by
  have := h.job a
  rw [ho] at this
  simpa [jobAt] using this

theorem endAuthorization_stations (s : State) (a : Addr) :
    ∃ st, atRest st = true ∧ (endAuthorization s a).stations =
      s.stations.set a { s.stations.get a with authCard := none, state := st, timer := none } := by
  have rest := atRest_restState (setStation (releaseAuthorization s a) a
    { (releaseAuthorization s a).stations.get a with authCard := none }) a
  refine ⟨_, rest, ?_⟩
  rw [endAuthorization, enter_stations]
  simp

/-- An authorization ended: the station is at rest (R32). -/
theorem SeatLaw.endAuthorization {A : Addr → Prop} {s : State} (h : SeatLaw A s) {a : Addr}
    (ho : hasOpenJob (s.stations.get a).state = false) : SeatLaw (fun b => A b ∧ b ≠ a) (endAuthorization s a) := by
  obtain ⟨st, rest, e⟩ := endAuthorization_stations s a
  refine h.released e ⟨?_, ?_⟩ (by simp [Machine.endAuthorization]) (by simp [Machine.endAuthorization])
  · simp [job_none_of_not_open h ho, hasOpenJob_of_atRest rest]
  · simp [beq_authorizing_of_atRest rest]

theorem authorizing_of_inAuthorization {s : State} (h : StationLaw s) {a : Addr} (ha : InAuthorization s a) :
    (s.stations.get a).state = .authorizing :=
  ha.elim id fun holds => (h.holder a).2 (.inl holds)

theorem StationLaw.endAuthorization {s : State} (h : StationLaw s) {a : Addr} (ha : InAuthorization s a) :
    StationLaw (endAuthorization s a) := by
  obtain ⟨st, rest, e⟩ := endAuthorization_stations s a
  refine .of_without e (fun w => ?_) ((stationLaw_iff.1 h).endAuthorization ?_)
  · simp only at w
    rw [w] at rest
    cases rest
  · rw [authorizing_of_inAuthorization h ha]
    rfl

/-- What going online comes to: the record of the station, and a FREE channel or a queue place (R29, R33). -/
theorem goOnline_cases (s : State) (a : Addr) (card : AuthCard) :
    (goOnline s a card).stations = s.stations.set a { s.stations.get a with
        state := .authorizing, authCard := some card, timer := some ⟨.authorization, s.timers.authorization⟩ }
      ∧ ((∃ c, channelStation s c = none ∧ channelStation (goOnline s a card) = assign (channelStation s) c (some a)
            ∧ (goOnline s a card).waitQueue = s.waitQueue)
        ∨ (∀ c, channelStation s c ≠ none) ∧ channelStation (goOnline s a card) = channelStation s
            ∧ (goOnline s a card).waitQueue = s.waitQueue ++ [a]) := by
  unfold goOnline
  dsimp only
  generalize hw : startTimer (setStation (enter s a .authorizing) a
    { (enter s a .authorizing).stations.get a with authCard := some card }) a .authorization = w
  have stations : w.stations = s.stations.set a { s.stations.get a with
      state := .authorizing, authCard := some card, timer := some ⟨.authorization, s.timers.authorization⟩ } := by
    rw [← hw, startTimer_stations, setStation_stations, enter_stations]
    simp only [Table.get_set_self, Table.set_set]
    rfl
  have channels : channelStation w = channelStation s := channelStation_congr (by rw [← hw]; simp)
  have queue : w.waitQueue = s.waitQueue := by rw [← hw]; simp
  split
  next c hc =>
    refine ⟨stations, .inl ⟨c, ?_, ?_, queue⟩⟩
    · rw [← channels]; exact channelStation_of_freeChannel hc
    · rw [channelStation_takeChannel, channels]
  next hc =>
    refine ⟨stations, .inr ⟨?_, ?_, ?_⟩⟩
    · rw [← channels]; exact channelStation_ne_of_freeChannel hc
    · exact channels
    · rw [← queue]

/-- A card sent online: its station takes the lowest FREE channel or the tail of the queue (R29). -/
theorem StationLaw.goOnline {s : State} (h : StationLaw s) {a : Addr} (card : AuthCard)
    (hs : (s.stations.get a).state = .idle) : StationLaw (goOnline s a card) := by
  have law := stationLaw_iff.1 h
  have out : ¬ (s.stations.get a).state = .authorizing := by simp [hs]
  obtain ⟨stations, online⟩ := goOnline_cases s a card
  have places : PlaceLaw (fun b => (s.stations.get b).state = .authorizing ∨ b = a)
      (channelStation (Machine.goOnline s a card)) (Machine.goOnline s a card).waitQueue := by
    rcases online with ⟨c, free, channels, queue⟩ | ⟨busy, channels, queue⟩ <;> rw [channels, queue]
    · exact law.places.take free out
    · exact law.places.join busy out
  have seat := law.seat stations ⟨by simp [job_none_of_not_open law (show _ = false by rw [hs]; rfl), hasOpenJob], rfl⟩
    (fun _ => rfl) (fun b e w => w.resolve_right e) places
  refine stationLaw_iff.2 (seat.mono fun b => ?_)
  rw [stations, Table.get_set]
  split
  next e => simp [e]
  next e => simp [e]

/-! ### Every authorization ended (R41, R142) -/

theorem sameSeats_placeCardResult (s : State) (a : Addr) (x : CardResult) : SameSeats s (placeCardResult s a x) := by
  obtain ⟨w, e⟩ := placeCardResult_eq s a x
  rw [e]
  exact .of_eq

theorem declineToSlot_station (s : State) (a b : Addr) (why : DeclineReason) :
    (atRest ((declineToSlot s a why).stations.get b).state = true ∧ b = a)
      ∨ ((declineToSlot s a why).stations.get b = s.stations.get b ∧ b ≠ a) := by
  obtain ⟨st, rest, e⟩ := endAuthorization_stations s a
  obtain ⟨w, e'⟩ := placeCardResult_eq (endAuthorization s a) a (.declined why)
  rw [declineToSlot, e']
  simp only [e]
  rcases eq_or_ne b a with rfl | ne
  · exact .inl ⟨by simpa using rest, rfl⟩
  · exact .inr ⟨by rw [Table.get_set, if_neg ne], ne⟩

/-- Authorizations ended one after another: none of their stations is AUTHORIZING in the end, and a station that was
not stays so. -/
theorem SeatLaw.endEach (l : List Addr) {A : Addr → Prop} {s : State} (h : SeatLaw A s)
    (ho : ∀ a ∈ l, hasOpenJob (s.stations.get a).state = false) :
    SeatLaw (fun b => A b ∧ b ∉ l) (l.foldl (fun s a => declineToSlot s a .mode) s)
      ∧ ∀ b, b ∈ l ∨ (s.stations.get b).state ≠ .authorizing →
        ((l.foldl (fun s a => declineToSlot s a .mode) s).stations.get b).state ≠ .authorizing := by
  induction l generalizing A s with
  | nil => exact ⟨h.mono (by simp), by simp⟩
  | cons a l ih =>
    obtain ⟨first, rest⟩ := List.forall_mem_cons.1 ho
    have one : SeatLaw (fun b => A b ∧ b ≠ a) (declineToSlot s a .mode) :=
      (h.endAuthorization first).congr (sameSeats_placeCardResult _ _ _)
    obtain ⟨law, states⟩ := ih one fun b hb => by
      rcases declineToSlot_station s a b .mode with ⟨r, _⟩ | ⟨e, _⟩
      · exact hasOpenJob_of_atRest r
      · rw [e]; exact rest b hb
    refine ⟨law.mono fun b => by simp [and_assoc], fun b hb => states b ?_⟩
    rcases declineToSlot_station s a b .mode with ⟨r, _⟩ | ⟨e, ne⟩
    · exact .inr fun w => by rw [w] at r; cases r
    · rw [e]
      exact hb.imp_left fun m => (List.mem_cons.1 m).resolve_left ne

theorem mem_authorizingAddrs {s : State} {a : Addr} :
    a ∈ authorizingAddrs s ↔ (s.stations.get a).state = .authorizing := by
  simp [authorizingAddrs, mem_allAddrs]

theorem StationLaw.endAuthorizations {s : State} (h : StationLaw s) : StationLaw (endAuthorizations s) := by
  have law := stationLaw_iff.1 h
  have emptied : SeatLaw (fun a => ∃ c, channelStation s c = some a) { s with waitQueue := [] } :=
    ⟨law.job, law.card, fun a hold => (h.holder a).2 (.inl hold), law.places.emptied⟩
  obtain ⟨seats, states⟩ := emptied.endEach (authorizingAddrs s) fun a ha => by
    rw [mem_authorizingAddrs.1 ha]; rfl
  refine stationLaw_iff.2 (seats.mono fun a => ⟨fun w => absurd w (states a ?_), fun w => ?_⟩)
  · rcases eq_or_ne (s.stations.get a).state .authorizing with e | e
    · exact .inl (mem_authorizingAddrs.2 e)
    · exact .inr e
  · exact absurd (mem_authorizingAddrs.2 ((h.holder a).2 (.inl w.1))) w.2

end Sys2Proof.Machine

namespace Sys2Proof.Machine

set_option Elab.async false

/-! ### Jobs opened and closed -/

/-- A record on which a job with this hold was opened (R27). -/
def chargedAccount (x : Account) (hold : Nat) : Account :=
  { x with holdsTotal := x.holdsTotal + hold, openJobs := x.openJobs + 1 }

/-- A plan captured once more (R27). -/
def capturedPlan (p : Plan) : Plan := { p with captures := p.captures + 1 }

/-- A grant but for the idle timer, field by field (R27). -/
theorem openJob_eq (s : State) (a : Addr) (n : AccountNo) (guest : Bool) (ceiling : Option Nat) (hold : Nat) :
    ∃ ns, openJob s a n guest ceiling hold = { s with
      accounts := s.accounts.set n (chargedAccount (s.accounts.get n) hold)
      channels := (releaseAuthorization (setAccount s n (chargedAccount (s.accounts.get n) hold)) a).channels
      waitQueue := (releaseAuthorization (setAccount s n (chargedAccount (s.accounts.get n) hold)) a).waitQueue
      plans := s.plans.set (s.accounts.get n).plan (capturedPlan (s.plans.get (s.accounts.get n).plan))
      reservations := s.reservations + 1
      stations := s.stations.set a { s.stations.get a with
        job := some (openingJob n guest (s.mode == .service) (s.accounts.get n) ceiling hold)
        authCard := none, state := .active, timer := none }
      presence := s.presence.set a { s.presence.get a with line := true }
      notices := ns } := by
  obtain ⟨ch, q, ns, released⟩ := releaseAuthorization_eq (setAccount s n (chargedAccount (s.accounts.get n) hold)) a
  obtain ⟨ms, noted⟩ := noticeLevel_eq { setAccount s n (chargedAccount (s.accounts.get n) hold) with
    channels := ch, waitQueue := q, notices := ns, reservations := s.reservations + 1 }
  refine ⟨ms, ?_⟩
  unfold openJob
  dsimp only
  rw [← chargedAccount, released]
  simp only [setAccount_reservations]
  rw [noted]
  simp only [setAccount, setPlan, setStation, enter, setPresence, Table.get_set_self, Table.set_set]
  rfl

/-- The record of an account after a settlement; a guest slot returns to FREE (R89). -/
def releasedAccount (s : State) (j : Job) : Account :=
  if j.guest then Account.reset .free
  else settledAccount (s.accounts.get j.account) (chargeOf (s.plans.get j.plan).m j) j.hold

/-- A plan captured once less (R89). -/
def uncapturedPlan (p : Plan) : Plan := { p with captures := p.captures - 1 }

/-- What taking a job off leaves of the tables besides the station (R57, R89). -/
theorem takeOff_tables (s : State) (a : Addr) (reason : EndReason) (j : Job) :
    (takeOff s a reason j).accounts = s.accounts.set j.account (releasedAccount s j)
      ∧ (takeOff s a reason j).plans = s.plans.set j.plan (uncapturedPlan (s.plans.get j.plan))
      ∧ (takeOff s a reason j).channels = s.channels ∧ (takeOff s a reason j).waitQueue = s.waitQueue
      ∧ (takeOff s a reason j).reservations = s.reservations - 1 := by
  obtain ⟨w, e⟩ := withdrawResume_eq (settle s a reason j) a
  simp only [takeOff, e, clearStation, enter_accounts, enter_plans, enter_channels, enter_waitQueue,
    enter_reservations, setStation_accounts, setStation_plans, setStation_channels, setStation_waitQueue,
    setStation_reservations]
  exact ⟨rfl, rfl, rfl, rfl, rfl⟩

/-- A grant leaves the law of stations: the station is ACTIVE with a job (R27). -/
theorem StationLaw.openJob {s : State} (h : StationLaw s) {a : Addr} (n : AccountNo) (guest : Bool)
    (ceiling : Option Nat) (hold : Nat) : StationLaw (openJob s a n guest ceiling hold) := by
  obtain ⟨ns, e⟩ := openJob_eq s a n guest ceiling hold
  have law : SeatLaw _ (setAccount s n (chargedAccount (s.accounts.get n) hold)) :=
    (stationLaw_iff.1 h).congr .of_eq
  rw [e]
  exact .of_without rfl (by simp) (law.released rfl ⟨rfl, rfl⟩ rfl rfl)

/-- A close leaves the law of stations: the station is at rest without a job (R57). -/
theorem StationLaw.takeOff {s : State} (h : StationLaw s) {a : Addr} (reason : EndReason) (j : Job)
    (hj : (jobAt s a).isSome = true) : StationLaw (takeOff s a reason j) := by
  have law := stationLaw_iff.1 h
  have rest := atRest_restState s a
  have opened : hasOpenJob (s.stations.get a).state = true := (law.job a).symm.trans hj
  have out : (s.stations.get a).state ≠ .authorizing := by intro w; rw [w] at opened; cases opened
  have card : (s.stations.get a).authCard.isSome = false := by rw [law.card a]; simpa using out
  obtain ⟨_, _, channels, queue, _⟩ := takeOff_tables s a reason j
  have stations := takeOff_stations s a reason j
  have seat := law.seat (B := fun b => (s.stations.get b).state = .authorizing) stations
    ⟨by simp [hasOpenJob_of_atRest rest], by simp [card, beq_authorizing_of_atRest rest]⟩ (fun w => absurd w out)
    (fun _ _ w => w) (by rw [channelStation_congr channels, queue]; exact law.places)
  refine stationLaw_iff.2 (seat.mono fun b => ?_)
  rw [stations, Table.get_set]
  split
  next same =>
    subst same
    exact iff_of_false (fun w => by simp only at w; rw [w] at rest; cases rest) out
  next => rfl

/-! ### Resets -/

theorem stationLaw_of_empty {s : State} (stations : ∀ a, s.stations.get a = Station.reset)
    (channels : ∀ c, channelStation s c = none) (queue : s.waitQueue = []) : StationLaw s := by
  refine ⟨fun a => ?_, fun a => ?_, fun a => ?_, fun a => ?_, fun c d => ?_, ?_, ?_⟩
  · rw [jobAt, stations]; rfl
  · rw [stations]; rfl
  · simp [stations, Station.reset, HoldsChannel, channels, queue]
  · simp [queue]
  · simp [channels]
  · simp [queue]
  · simp [queue]

theorem stationLaw_reset : StationLaw State.reset :=
  stationLaw_of_empty (fun a => by simp [State.reset]) (fun c => by simp [channelStation, State.reset]) rfl

theorem channelStation_freeChannels (s : State) (c : ChannelNo) : channelStation (freeChannels s) c = none := by
  simp only [freeChannels, allChannels, List.foldl, channelStation_setChannel, assign]
  fin_cases c <;> rfl

theorem stationLaw_floorDown (s : State) : StationLaw (floorDown (freeChannels s)) :=
  stationLaw_of_empty (fun a => Table.get_fill _ a) (fun c => channelStation_freeChannels s c) rfl

/-! ### Every move keeps the law of stations -/

theorem jobAt_isSome_of_claimAt {s : State} {a : Addr} {c : Claim} (h : claimAt s a = some c) :
    (jobAt s a).isSome = true := by
  have := congrArg Option.isSome h
  simpa [claimAt] using this

theorem StationLaw.move {s t : State} (m : Move s t) (h : StationLaw s) : StationLaw t := by
  cases m with
  | links e => exact h.congr (.of_eq e.stations e.channels e.waitQueue)
  | reset e => exact stationLaw_reset.congr (.of_eq e.stations e.channels e.waitQueue)
  | station a r hs hc hj =>
    refine h.congr (.of_set rfl (hs ▸ .refl _) ?_ (by rw [hc]))
    have := congrArg Option.isSome hj
    simpa [claimAt] using this
  | enter a st hs => exact h.congr (.of_set rfl hs rfl rfl)
  | online a card hs => exact h.goOnline card hs
  | ended a ha => exact h.endAuthorization ha
  | endedAll => exact h.endAuthorizations
  | granted a n ceiling hold => exact h.openJob n false ceiling hold
  | guestGranted a n amount plan rights tag =>
    have filled : StationLaw (setAccount s n (guestAccount amount plan rights tag)) := h.congr .of_eq
    exact filled.openJob n true none _
  | settled a reason j hj => exact h.takeOff reason j (jobAt_isSome_of_claimAt hj)
  | extended a j hj =>
    refine h.congr (.of_set (a := a) rfl (.refl _) ?_ rfl)
    exact (jobAt_isSome_of_claimAt hj).symm
  | floorDown _ => exact stationLaw_floorDown s
  | _ => exact h.congr .of_eq

end Sys2Proof.Machine

namespace Sys2Proof.Machine

set_option Elab.async false

/-! ## The books: accounts and plans against the open jobs (R1, R3, R19, R20, R78, R91) -/

/-! ### The claims of the open jobs -/

/-- The claims of the open jobs of the sixteen stations. -/
def claims (s : State) : List Claim := allAddrs.filterMap (claimAt s)

/-- The claims of the open jobs of every station but one. -/
def otherClaims (s : State) (a : Addr) : List Claim := (allAddrs.erase a).filterMap (claimAt s)

theorem claims_eq (s : State) : claims s = (openJobs s).map claimOf := by
  rw [openJobs, List.map_filterMap]
  rfl

theorem claims_perm (s : State) (a : Addr) : (claims s).Perm ((claimAt s a).toList ++ otherClaims s a) := by
  have := (List.perm_cons_erase (mem_allAddrs a)).filterMap (claimAt s)
  rw [List.filterMap_cons] at this
  unfold claims otherClaims
  cases h : claimAt s a <;> rw [h] at this <;> exact this

theorem otherClaims_congr {s t : State} {a : Addr} (h : ∀ b, b ≠ a → claimAt t b = claimAt s b) :
    otherClaims t a = otherClaims s a :=
  List.filterMap_congr fun b hb => h b ((allAddrs_nodup.mem_erase_iff.1 hb).1)

theorem claims_congr {s t : State} (h : ∀ a, claimAt t a = claimAt s a) : claims t = claims s :=
  List.filterMap_congr fun a _ => h a

theorem claimAt_congr {s t : State} (h : t.stations = s.stations) (a : Addr) : claimAt t a = claimAt s a := by
  rw [claimAt, jobAt, h]
  rfl

/-- One station record replaced: the claim of its job, and those of the others. -/
theorem claimAt_of_set {s t : State} {a : Addr} {r : Station} (h : t.stations = s.stations.set a r) (b : Addr) :
    claimAt t b = if b = a then r.job.map claimOf else claimAt s b := by
  rw [claimAt, jobAt, h, Table.get_set]
  split <;> rfl

/-! ### The law over a list of claims -/

/-- The claims on a record. -/
def claimsOn (cs : List Claim) (n : AccountNo) : List Claim := cs.filter fun c => c.account == n

/-- Accounts and plans of a state are true to a list of claims. -/
structure Books (s : State) (cs : List Claim) : Prop where
  holds    : ∀ n : AccountNo, (s.accounts.get n).holdsTotal = ((claimsOn cs n).map Claim.hold).sum
  count    : ∀ n : AccountNo, (s.accounts.get n).openJobs = (claimsOn cs n).length
  regular  : ∀ n : AccountNo, n.val < 480 →
    (s.accounts.get n).status = .unloaded ∨ (s.accounts.get n).status = .openAccount
      ∨ (s.accounts.get n).status = .suspended
  slot     : ∀ n : AccountNo, 480 ≤ n.val →
    (s.accounts.get n).status = .free ∨ (s.accounts.get n).status = .guest
  idle     : ∀ n : AccountNo, (s.accounts.get n).status = .unloaded ∨ (s.accounts.get n).status = .free →
    claimsOn cs n = []
  guest    : ∀ n : AccountNo, (s.accounts.get n).status = .guest → (claimsOn cs n).length = 1
  flag     : ∀ c ∈ cs, c.guest = decide (480 ≤ c.account.val)
  captures : ∀ p : PlanNo, (s.plans.get p).captures = (cs.filter fun c => c.plan == p).length
  loaded   : ∀ c ∈ cs, (s.plans.get c.plan).loaded = true
  least    : ∀ c ∈ cs, c.service = false → (s.plans.get c.plan).m ≤ c.hold
  terms    : ∀ p : PlanNo, (s.plans.get p).loaded = true → (s.plans.get p).m ≤ (s.plans.get p).h

theorem claimsOn_claims (s : State) (n : AccountNo) : claimsOn (claims s) n = (jobsOn s n).map claimOf := by
  rw [claims_eq, claimsOn, List.filter_map]
  rfl

/-- The account law is the law of stations, the card law, and books true to the claims of the open jobs. -/
theorem accountLaw_iff {s : State} : AccountLaw s ↔ StationLaw s ∧ CardLaw s ∧ Books s (claims s) := by
  have holds (n : AccountNo) : (claimsOn (claims s) n).map Claim.hold = (jobsOn s n).map Job.hold := by
    rw [claimsOn_claims, List.map_map]
    rfl
  have count (n : AccountNo) : (claimsOn (claims s) n).length = (jobsOn s n).length := by
    rw [claimsOn_claims, List.length_map]
  have idle (n : AccountNo) : claimsOn (claims s) n = [] ↔ jobsOn s n = [] := by
    rw [claimsOn_claims, List.map_eq_nil_iff]
  have captures (p : PlanNo) : ((claims s).filter fun c => c.plan == p).length
      = ((openJobs s).filter fun j => j.plan == p).length := by
    rw [claims_eq, List.filter_map, List.length_map]
    rfl
  have each (P : Claim → Prop) : (∀ c ∈ claims s, P c) ↔ ∀ j ∈ openJobs s, P (claimOf j) := by
    rw [claims_eq, List.forall_mem_map]
  constructor
  · intro h
    refine ⟨h.stations, h.cards, ⟨?_, ?_, h.regular, h.slot, ?_, ?_, ?_, ?_, ?_, ?_, h.terms⟩⟩
    · simpa only [holds] using h.holds
    · simpa only [count] using h.count
    · simpa only [idle] using h.idle
    · simpa only [count] using h.guest
    · exact (each _).2 h.flag
    · simpa only [captures] using h.captures
    · exact (each _).2 h.loaded
    · exact (each fun c => c.service = false → (s.plans.get c.plan).m ≤ c.hold).2 h.least
  · rintro ⟨stations, cards, b⟩
    refine ⟨stations, cards, ?_, ?_, b.regular, b.slot, ?_, ?_, ?_, ?_, ?_, ?_, b.terms⟩
    · simpa only [holds] using b.holds
    · simpa only [count] using b.count
    · simpa only [idle] using b.idle
    · simpa only [count] using b.guest
    · exact (each _).1 b.flag
    · simpa only [captures] using b.captures
    · exact (each _).1 b.loaded
    · exact (each fun c => c.service = false → (s.plans.get c.plan).m ≤ c.hold).1 b.least

theorem Books.perm {s : State} {cs ds : List Claim} (h : Books s cs) (p : cs.Perm ds) : Books s ds where
  holds n := (h.holds n).trans ((p.filter _).map _).sum_eq
  count n := (h.count n).trans (p.filter _).length_eq
  regular := h.regular
  slot := h.slot
  idle n hn := by
    have none := p.filter fun c => c.account == n
    rw [show cs.filter _ = [] from h.idle n hn] at none
    exact none.nil_eq.symm
  guest n hn := (p.filter _).length_eq.symm.trans (h.guest n hn)
  flag c hc := h.flag c (p.mem_iff.2 hc)
  captures q := (h.captures q).trans (p.filter _).length_eq
  loaded c hc := h.loaded c (p.mem_iff.2 hc)
  least c hc := h.least c (p.mem_iff.2 hc)
  terms := h.terms

/-- The books read status, holds total and open jobs of a record, and the plans. -/
theorem Books.congr {s t : State} {cs : List Claim} (h : Books s cs)
    (accounts : ∀ n, (t.accounts.get n).status = (s.accounts.get n).status
      ∧ (t.accounts.get n).holdsTotal = (s.accounts.get n).holdsTotal
      ∧ (t.accounts.get n).openJobs = (s.accounts.get n).openJobs)
    (plans : t.plans = s.plans := by rfl) : Books t cs := by
  have status (n : AccountNo) : (t.accounts.get n).status = (s.accounts.get n).status := (accounts n).1
  refine ⟨fun n => (accounts n).2.1.trans (h.holds n), fun n => (accounts n).2.2.trans (h.count n), ?_, ?_, ?_, ?_,
    h.flag, ?_, ?_, ?_, ?_⟩
  · simpa only [status] using h.regular
  · simpa only [status] using h.slot
  · simpa only [status] using h.idle
  · simpa only [status] using h.guest
  · simpa only [plans] using h.captures
  · simpa only [plans] using h.loaded
  · simpa only [plans] using h.least
  · simpa only [plans] using h.terms

theorem Books.of_eq {s t : State} {cs : List Claim} (h : Books s cs) (accounts : t.accounts = s.accounts := by rfl)
    (plans : t.plans = s.plans := by rfl) : Books t cs :=
  h.congr (fun n => by rw [accounts]; exact ⟨rfl, rfl, rfl⟩) plans

/-! ### A claim added, changed, taken away -/

theorem claimsOn_cons (c : Claim) (cs : List Claim) (n : AccountNo) :
    claimsOn (c :: cs) n = if n = c.account then c :: claimsOn cs n else claimsOn cs n := by
  unfold claimsOn
  rw [List.filter_cons]
  by_cases e : n = c.account
  · simp [e]
  · simp [e, Ne.symm e]

theorem captures_cons (c : Claim) (cs : List Claim) (p : PlanNo) :
    ((c :: cs).filter fun c => c.plan == p).length
      = (cs.filter fun c => c.plan == p).length + if p = c.plan then 1 else 0 := by
  rw [List.filter_cons]
  by_cases e : p = c.plan
  · simp [e]
  · simp [e, Ne.symm e]

section
variable {s t : State} {cs : List Claim} {c : Claim} {x : Account} {p : Plan}

/-- A plan replaced by one that differs in its capture count only. -/
theorem plans_of_set (plans : t.plans = s.plans.set c.plan p)
    (terms : p.loaded = (s.plans.get c.plan).loaded ∧ p.m = (s.plans.get c.plan).m ∧ p.h = (s.plans.get c.plan).h)
    (q : PlanNo) : (t.plans.get q).loaded = (s.plans.get q).loaded ∧ (t.plans.get q).m = (s.plans.get q).m
      ∧ (t.plans.get q).h = (s.plans.get q).h := by
  rw [plans, Table.get_set]
  split
  next e => exact e ▸ terms
  next => exact ⟨rfl, rfl, rfl⟩

/-- A job is opened on a record that is not UNLOADED, or fills a FREE guest slot (R27, R37). -/
theorem Books.opened (h : Books s cs) (accounts : t.accounts = s.accounts.set c.account x)
    (plans : t.plans = s.plans.set c.plan (capturedPlan (s.plans.get c.plan)))
    (holds : x.holdsTotal = (s.accounts.get c.account).holdsTotal + c.hold)
    (count : x.openJobs = (s.accounts.get c.account).openJobs + 1)
    (regular : c.account.val < 480 → x.status = .openAccount ∨ x.status = .suspended)
    (slot : 480 ≤ c.account.val → x.status = .guest ∧ (s.accounts.get c.account).status = .free)
    (flag : c.guest = decide (480 ≤ c.account.val)) (loaded : (s.plans.get c.plan).loaded = true)
    (least : c.service = false → (s.plans.get c.plan).m ≤ c.hold) : Books t (c :: cs) := by
  have terms := plans_of_set plans ⟨rfl, rfl, rfl⟩
  refine ⟨fun n => ?_, fun n => ?_, fun n hn => ?_, fun n hn => ?_, fun n hn => ?_, fun n hn => ?_,
    List.forall_mem_cons.2 ⟨flag, h.flag⟩, fun q => ?_, ?_, ?_, ?_⟩
  · rw [accounts, Table.get_set, claimsOn_cons]
    split
    next e => subst e; rw [List.map_cons, List.sum_cons, ← h.holds, holds, Nat.add_comm]
    next => exact h.holds n
  · rw [accounts, Table.get_set, claimsOn_cons]
    split
    next e => subst e; rw [List.length_cons, ← h.count, count]
    next => exact h.count n
  · rw [accounts, Table.get_set]
    split
    next e => exact .inr (regular (e ▸ hn))
    next => exact h.regular n hn
  · rw [accounts, Table.get_set]
    split
    next e => exact .inr (slot (e ▸ hn)).1
    next => exact h.slot n hn
  · rw [accounts, Table.get_set] at hn
    rw [claimsOn_cons]
    split at hn
    next e =>
      rcases Nat.lt_or_ge c.account.val 480 with low | high
      · rcases regular low with w | w <;> simp [w] at hn
      · simp [(slot high).1] at hn
    next e => rw [if_neg e]; exact h.idle n hn
  · rw [accounts, Table.get_set] at hn
    rw [claimsOn_cons]
    split at hn
    next e =>
      rw [if_pos e]
      rcases Nat.lt_or_ge c.account.val 480 with low | high
      · rcases regular low with w | w <;> simp [w] at hn
      · rw [List.length_cons, e, h.idle _ (.inr (slot high).2)]
        rfl
    next e => rw [if_neg e]; exact h.guest n hn
  · rw [plans, Table.get_set, captures_cons, ← h.captures]
    split
    next e => subst e; rfl
    next => rfl
  · simp only [terms]
    exact List.forall_mem_cons.2 ⟨loaded, h.loaded⟩
  · simp only [terms]
    exact List.forall_mem_cons.2 ⟨least, h.least⟩
  · simpa only [terms] using h.terms

/-- A job is closed: its record gives back the hold, a guest slot returns to FREE (R89). -/
theorem Books.closed (h : Books s (c :: cs)) (accounts : t.accounts = s.accounts.set c.account x)
    (plans : t.plans = s.plans.set c.plan (uncapturedPlan (s.plans.get c.plan)))
    (regular : c.guest = false → x.status = (s.accounts.get c.account).status
      ∧ x.holdsTotal = (s.accounts.get c.account).holdsTotal - c.hold
      ∧ x.openJobs = (s.accounts.get c.account).openJobs - 1)
    (slot : c.guest = true → x = Account.reset .free) : Books t cs := by
  have terms := plans_of_set plans ⟨rfl, rfl, rfl⟩
  have flag : c.guest = decide (480 ≤ c.account.val) := h.flag c (List.mem_cons_self ..)
  have holds := h.holds c.account
  have count := h.count c.account
  have slotted := h.slot c.account
  have lone := h.guest c.account
  have busy := h.idle c.account
  rw [claimsOn_cons, if_pos rfl] at holds count lone busy
  have last (g : c.guest = true) : claimsOn cs c.account = [] := by
    have high : 480 ≤ c.account.val := by simpa [g] using flag
    rcases slotted high with w | w
    · cases busy (.inr w)
    · simpa using lone w
  refine ⟨fun n => ?_, fun n => ?_, fun n hn => ?_, fun n hn => ?_, fun n hn => ?_, fun n hn => ?_,
    (List.forall_mem_cons.1 h.flag).2, fun q => ?_, ?_, ?_, ?_⟩
  · have other := h.holds n
    rw [claimsOn_cons] at other
    rw [accounts, Table.get_set]
    split
    next e =>
      subst e
      cases g : c.guest with
      | true => rw [slot g, last g]; rfl
      | false => rw [(regular g).2.1, holds, List.map_cons, List.sum_cons, Nat.add_sub_cancel_left]
    next e => rw [other, if_neg e]
  · have other := h.count n
    rw [claimsOn_cons] at other
    rw [accounts, Table.get_set]
    split
    next e =>
      subst e
      cases g : c.guest with
      | true => rw [slot g, last g]; rfl
      | false => rw [(regular g).2.2, count, List.length_cons, Nat.add_sub_cancel]
    next e => rw [other, if_neg e]
  · rw [accounts, Table.get_set]
    split
    next e =>
      subst e
      rw [(regular (by simpa [flag] using hn)).1]
      exact h.regular _ hn
    next => exact h.regular n hn
  · rw [accounts, Table.get_set]
    split
    next e =>
      subst e
      rw [slot (by simpa [flag] using hn)]
      exact .inl rfl
    next => exact h.slot n hn
  · have other := h.idle n
    rw [claimsOn_cons] at other
    rw [accounts, Table.get_set] at hn
    split at hn
    next e =>
      subst e
      cases g : c.guest with
      | true => exact last g
      | false =>
        rw [(regular g).1] at hn
        cases busy hn
    next e => rw [if_neg e] at other; exact other hn
  · have other := h.guest n
    rw [claimsOn_cons] at other
    rw [accounts, Table.get_set] at hn
    split at hn
    next e =>
      subst e
      cases g : c.guest with
      | true => rw [slot g] at hn; cases hn
      | false =>
        have low : c.account.val < 480 := by simpa [g] using flag
        rw [(regular g).1] at hn
        rcases h.regular _ low with w | w | w <;> rw [w] at hn <;> cases hn
    next e => rw [if_neg e] at other; exact other hn
  · have total := h.captures q
    rw [captures_cons] at total
    rw [plans, Table.get_set]
    split
    next e => subst e; simp [uncapturedPlan, total]
    next e => simpa [e] using total
  · simpa only [terms] using (List.forall_mem_cons.1 h.loaded).2
  · simpa only [terms] using (List.forall_mem_cons.1 h.least).2
  · simpa only [terms] using h.terms

/-- An open job's hold rises with its record's holds total (R80). -/
theorem Books.extended (h : Books s (c :: cs)) (e : Nat) (accounts : t.accounts = s.accounts.set c.account x)
    (plans : t.plans = s.plans) (status : x.status = (s.accounts.get c.account).status)
    (holds : x.holdsTotal = (s.accounts.get c.account).holdsTotal + e)
    (count : x.openJobs = (s.accounts.get c.account).openJobs) : Books t ({ c with hold := c.hold + e } :: cs) := by
  have states (n : AccountNo) : (t.accounts.get n).status = (s.accounts.get n).status := by
    rw [accounts, Table.get_set]
    split
    next e => exact e ▸ status
    next => rfl
  have lengths (n : AccountNo) : (claimsOn ({ c with hold := c.hold + e } :: cs) n).length
      = (claimsOn (c :: cs) n).length := by
    rw [claimsOn_cons, claimsOn_cons]
    split <;> rfl
  refine ⟨fun n => ?_, fun n => ?_, ?_, ?_, fun n hn => ?_, fun n hn => ?_, ?_, fun q => ?_, ?_, ?_, ?_⟩
  · have total := h.holds n
    rw [claimsOn_cons] at total ⊢
    rw [accounts, Table.get_set]
    split
    next same =>
      subst same
      simp only [if_true, List.map_cons, List.sum_cons] at total ⊢
      omega
    next other => simpa [other] using total
  · rw [lengths, ← h.count, accounts, Table.get_set]
    split
    next same => exact same ▸ count
    next => rfl
  · simpa only [states] using h.regular
  · simpa only [states] using h.slot
  · rw [states] at hn
    have none := h.idle n hn
    rw [← List.length_eq_zero_iff] at none ⊢
    rw [lengths, none]
  · rw [states] at hn
    rw [lengths, h.guest n hn]
  · exact List.forall_mem_cons.2 (List.forall_mem_cons.1 h.flag)
  · rw [plans, h.captures, captures_cons, captures_cons]
  · rw [plans]
    exact List.forall_mem_cons.2 (List.forall_mem_cons.1 h.loaded)
  · rw [plans]
    obtain ⟨own, others⟩ := List.forall_mem_cons.1 h.least
    exact List.forall_mem_cons.2 ⟨fun hs => Nat.le_add_right_of_le (own hs), others⟩
  · rw [plans]
    exact h.terms

end

/-! ### Records and plans written -/

theorem Books.claimsOn_nil {s : State} {cs : List Claim} (h : Books s cs) {n : AccountNo}
    (none : (s.accounts.get n).openJobs = 0) : claimsOn cs n = [] :=
  List.length_eq_zero_iff.1 ((h.count n).symm.trans none)

/-- A regular record without open jobs is written (R6, R9). -/
theorem Books.written {s : State} {cs : List Claim} (h : Books s cs) {n : AccountNo} {x : Account} (hn : n.val < 480)
    (none : (s.accounts.get n).openJobs = 0) (count : x.openJobs = 0)
    (holds : x.holdsTotal = (s.accounts.get n).holdsTotal ∨ x.holdsTotal = 0)
    (status : x.status = .unloaded ∨ x.status = .openAccount ∨ x.status = .suspended) :
    Books (setAccount s n x) cs := by
  have empty := h.claimsOn_nil none
  have zero : (s.accounts.get n).holdsTotal = 0 := by rw [h.holds, empty]; rfl
  refine ⟨fun m => ?_, fun m => ?_, fun m hm => ?_, fun m hm => ?_, fun m hm => ?_, fun m hm => ?_, h.flag,
    h.captures, h.loaded, h.least, h.terms⟩
  all_goals rw [setAccount_accounts, Table.get_set] at *
  · split
    next e => rw [e, empty, holds.elim (fun w => w.trans zero) id]; rfl
    next => exact h.holds m
  · split
    next e => rw [e, empty, count]; rfl
    next => exact h.count m
  · split
    next => exact status
    next => exact h.regular m hm
  · split
    next e => subst e; omega
    next => exact h.slot m hm
  · split at hm
    next e => rw [e, empty]
    next => exact h.idle m hm
  · split at hm
    next e => rcases status with w | w | w <;> rw [w] at hm <;> cases hm
    next => exact h.guest m hm

/-- A loaded regular record takes another loaded status (R9). -/
theorem Books.restatused {s : State} {cs : List Claim} (h : Books s cs) {n : AccountNo} {st : AccountStatus}
    (hn : n.val < 480) (status : st = .openAccount ∨ st = .suspended) :
    Books (setAccount s n { s.accounts.get n with status := st }) cs := by
  refine ⟨fun m => ?_, fun m => ?_, fun m hm => ?_, fun m hm => ?_, fun m hm => ?_, fun m hm => ?_, h.flag,
    h.captures, h.loaded, h.least, h.terms⟩
  all_goals rw [setAccount_accounts, Table.get_set] at *
  · split
    next e => subst e; exact h.holds m
    next => exact h.holds m
  · split
    next e => subst e; exact h.count m
    next => exact h.count m
  · split
    next => exact .inr status
    next => exact h.regular m hm
  · split
    next e => subst e; omega
    next => exact h.slot m hm
  · split at hm
    next e => rcases status with w | w <;> simp [w] at hm
    next => exact h.idle m hm
  · split at hm
    next e => rcases status with w | w <;> simp [w] at hm
    next => exact h.guest m hm

/-- A plan that no open job captured is written (R20). -/
theorem Books.planned {s : State} {cs : List Claim} (h : Books s cs) {p : PlanNo} {x : Plan}
    (none : (s.plans.get p).captures = 0) (zero : x.captures = 0) (terms : x.loaded = true → x.m ≤ x.h) :
    Books (setPlan s p x) cs := by
  have uncaptured (c : Claim) (hc : c ∈ cs) : c.plan ≠ p := by
    intro e
    have listed : c ∈ cs.filter fun c => c.plan == p := List.mem_filter.2 ⟨hc, by simpa using e⟩
    rw [List.length_eq_zero_iff.1 ((h.captures p).symm.trans none)] at listed
    cases listed
  have kept (c : Claim) (hc : c ∈ cs) : (setPlan s p x).plans.get c.plan = s.plans.get c.plan := by
    rw [setPlan_plans, Table.get_set, if_neg (uncaptured c hc)]
  refine ⟨h.holds, h.count, h.regular, h.slot, h.idle, h.guest, h.flag, fun q => ?_, fun c hc => ?_, fun c hc => ?_,
    fun q => ?_⟩
  · rw [setPlan_plans, Table.get_set]
    split
    next e => rw [zero, e, ← h.captures, none]
    next => exact h.captures q
  · rw [kept c hc]; exact h.loaded c hc
  · rw [kept c hc]; exact h.least c hc
  · rw [setPlan_plans, Table.get_set]
    split
    next => exact terms
    next => exact h.terms q

/-! ### Reset -/

theorem accounts_reset (n : AccountNo) : State.reset.accounts.get n =
    if n.val < 480 then Account.reset .unloaded else Account.reset .free := by
  simp only [State.reset, Table.get, Table.append, Table.fill]
  rw [List.getElem_append]
  simp only [List.length_replicate, List.getElem_replicate]
  split <;> rfl

theorem books_reset : Books State.reset [] := by
  have plans (p : PlanNo) : State.reset.plans.get p = Plan.reset := Table.get_fill _ p
  refine ⟨fun n => ?_, fun n => ?_, fun n hn => ?_, fun n hn => ?_, fun _ _ => rfl, fun n hn => ?_, by simp,
    fun p => by rw [plans]; rfl, by simp, by simp, fun p hp => by rw [plans] at hp; cases hp⟩
  · rw [accounts_reset]
    split <;> rfl
  · rw [accounts_reset]
    split <;> rfl
  · rw [accounts_reset, if_pos hn]
    exact .inl rfl
  · rw [accounts_reset, if_neg (by omega)]
    exact .inl rfl
  · rw [accounts_reset] at hn
    split at hn <;> cases hn

theorem claimAt_reset (a : Addr) : claimAt State.reset a = none := by
  simp [claimAt, jobAt, State.reset, Station.reset]

/-! ### Every move keeps the account law -/

/-- What the books read of a state is the same in two states. -/
structure SameBooks (s t : State) : Prop where
  accounts : t.accounts = s.accounts
  plans    : t.plans = s.plans
  claims   : ∀ a, claimAt t a = claimAt s a

theorem SameBooks.of_stations {s t : State} (stations : t.stations = s.stations := by rfl)
    (accounts : t.accounts = s.accounts := by rfl) (plans : t.plans = s.plans := by rfl) : SameBooks s t :=
  ⟨accounts, plans, claimAt_congr stations⟩

theorem SameBooks.of_set {s t : State} {a : Addr} {r : Station} (stations : t.stations = s.stations.set a r)
    (job : r.job.map claimOf = claimAt s a) (accounts : t.accounts = s.accounts := by rfl)
    (plans : t.plans = s.plans := by rfl) : SameBooks s t := by
  refine ⟨accounts, plans, fun b => ?_⟩
  rw [claimAt_of_set stations]
  split
  next e => rw [job, e]
  next => rfl

theorem SameBooks.trans {s t u : State} (h : SameBooks s t) (g : SameBooks t u) : SameBooks s u :=
  ⟨g.accounts.trans h.accounts, g.plans.trans h.plans, fun a => (g.claims a).trans (h.claims a)⟩

theorem Books.same {s t : State} (h : Books s (claims s)) (e : SameBooks s t) : Books t (claims t) := by
  rw [claims_congr e.claims]
  exact h.of_eq e.accounts e.plans

theorem sameBooks_endAuthorization (s : State) (a : Addr) : SameBooks s (endAuthorization s a) := by
  obtain ⟨st, _, e⟩ := endAuthorization_stations s a
  obtain ⟨ch, q, ns, released⟩ := releaseAuthorization_eq s a
  refine .of_set e rfl ?_ ?_
  · simp [endAuthorization, released]
  · simp [endAuthorization, released]

theorem sameBooks_placeCardResult (s : State) (a : Addr) (x : CardResult) : SameBooks s (placeCardResult s a x) := by
  obtain ⟨w, e⟩ := placeCardResult_eq s a x
  rw [e]
  exact .of_stations

theorem sameBooks_endAuthorizations (s : State) : SameBooks s (endAuthorizations s) := by
  have each (l : List Addr) (t : State) : SameBooks t (l.foldl (fun s a => declineToSlot s a .mode) t) := by
    induction l generalizing t with
    | nil => exact .of_stations
    | cons a l ih =>
      exact ((sameBooks_endAuthorization t a).trans (sameBooks_placeCardResult _ a _)).trans (ih _)
  exact SameBooks.trans (t := { s with waitQueue := [] }) .of_stations (each _ _)

theorem sameBooks_goOnline (s : State) (a : Addr) (card : AuthCard) : SameBooks s (goOnline s a card) := by
  refine .of_set (goOnline_cases s a card).1 rfl ?_ ?_ <;>
  · unfold goOnline
    dsimp only
    split <;> simp [takeChannel]

theorem claims_perm_opened {s t : State} {a : Addr} {r : Station} {c : Claim} (before : claimAt s a = none)
    (stations : t.stations = s.stations.set a r) (after : r.job.map claimOf = some c) :
    (c :: claims s).Perm (claims t) := by
  have others : otherClaims t a = otherClaims s a :=
    otherClaims_congr fun b hb => by rw [claimAt_of_set stations, if_neg hb]
  have ps := claims_perm s a
  have pt := claims_perm t a
  rw [before] at ps
  rw [claimAt_of_set stations, if_pos rfl, after, others] at pt
  exact (ps.cons c).trans pt.symm

theorem claims_perm_changed {s t : State} {a : Addr} {r : Station} {c d : Claim} (before : claimAt s a = some c)
    (stations : t.stations = s.stations.set a r) (after : r.job.map claimOf = some d) :
    ∃ l, (claims s).Perm (c :: l) ∧ (d :: l).Perm (claims t) := by
  have others : otherClaims t a = otherClaims s a :=
    otherClaims_congr fun b hb => by rw [claimAt_of_set stations, if_neg hb]
  have ps := claims_perm s a
  have pt := claims_perm t a
  rw [before] at ps
  rw [claimAt_of_set stations, if_pos rfl, after, others] at pt
  exact ⟨_, ps, pt.symm⟩

theorem claims_perm_closed {s t : State} {a : Addr} {r : Station} {c : Claim} (before : claimAt s a = some c)
    (stations : t.stations = s.stations.set a r) (after : r.job = none) : (claims s).Perm (c :: claims t) := by
  have others : otherClaims t a = otherClaims s a :=
    otherClaims_congr fun b hb => by rw [claimAt_of_set stations, if_neg hb]
  have ps := claims_perm s a
  have pt := claims_perm t a
  rw [before] at ps
  rw [claimAt_of_set stations, if_pos rfl, after, others] at pt
  exact ps.trans (pt.symm.cons c)

end Sys2Proof.Machine

namespace Sys2Proof.Machine

set_option Elab.async false

/-! ### Grants -/

/-- What a record that no check declines has (R24, R36). -/
theorem loaded_of_accountDecline {s : State} {n : AccountNo} (h : accountDecline s n = none) :
    (s.accounts.get n).status ≠ .unloaded ∧ (s.accounts.get n).status ≠ .suspended
      ∧ (s.plans.get (s.accounts.get n).plan).loaded = true := by
  unfold accountDecline at h
  dsimp only at h
  split at h
  · cases h
  next unloaded =>
    split at h
    · cases h
    next suspended =>
      split at h
      · cases h
      · split at h
        · cases h
        · split at h
          · cases h
          next loaded => exact ⟨unloaded, suspended, by simpa using loaded⟩

/-- A record that a grant may name is a regular one (R12, R14). -/
theorem regular_of_nameable {s : State} (law : CardLaw s) {n : AccountNo} (h : Nameable s n) : n.val < 480 := by
  rcases h with low | ⟨card, l, found, rfl⟩
  · exact low
  · unfold lookupCard at found
    obtain ⟨e, entry, rfl⟩ := Option.map_eq_some_iff.1 found
    unfold entryOf at entry
    obtain ⟨w, _, held⟩ := Option.bind_eq_some_iff.1 entry
    have := (law.1 _ w e held).2.2.2
    exact Nat.lt_succ_of_le this

/-- What a guest approval that no check refuses has passed, and the slot it takes (R37). -/
theorem of_guestRefusal_ok {s : State} {amount : Nat} {plan : PlanNo} {rights : Rights} {n : AccountNo}
    (h : guestRefusal s amount plan rights = .ok n) :
    (s.plans.get plan).loaded = true ∧ (s.mode ≠ .service → leastFunds (s.plans.get plan) ≤ amount)
      ∧ (s.accounts.get n).status = .free ∧ 480 ≤ n.val := by
  unfold guestRefusal at h
  dsimp only at h
  split at h
  · cases h
  · split at h
    · cases h
    · split at h
      · cases h
      next loaded =>
        split at h
        · cases h
        · split at h
          · cases h
          next funds =>
            split at h
            next slot =>
              cases h
              have high : ∀ m ∈ guestSlots, decide (480 ≤ m.val) = true := List.all_eq_true.1 (by decide +kernel)
              have free := List.find?_some slot
              refine ⟨by simpa using loaded, fun service => ?_, by simpa using free, 
                of_decide_eq_true (high _ (List.mem_of_find?_eq_some slot))⟩
              simpa [service] using funds
            next => cases h

/-- The hold of a guest grant covers the plan's minimum (R37). -/
theorem le_guestHold {s : State} {amount : Nat} {plan : PlanNo} (service : s.mode ≠ .service)
    (funds : leastFunds (s.plans.get plan) ≤ amount) (terms : (s.plans.get plan).m ≤ (s.plans.get plan).h) :
    (s.plans.get plan).m ≤ guestHold s amount plan := by
  unfold leastFunds at funds
  simp only [guestHold, if_neg service]
  omega

theorem claimOf_openingJob (n : AccountNo) (guest service : Bool) (x : Account) (ceiling : Option Nat) (hold : Nat) :
    claimOf (openingJob n guest service x ceiling hold) = ⟨n, guest, x.plan, service, hold⟩ := rfl

/-- A station where a job may be granted has none. -/
theorem claimAt_of_grantable {s : State} (law : StationLaw s) {a : Addr} (h : Grantable s a) : claimAt s a = none := by
  have shut : hasOpenJob (s.stations.get a).state = false := by
    rcases h with idle | holds
    · rw [idle]; rfl
    · rw [(law.holder a).2 (.inl holds)]; rfl
  have none := job_none_of_not_open (stationLaw_iff.1 law) shut
  simp [claimAt, jobAt, none]

/-- A grant on a regular record keeps the books (R26, R27, R36). -/
theorem AccountLaw.granted {s : State} (law : AccountLaw s) {a : Addr} {n : AccountNo} (ceiling : Option Nat) {hold : Nat}
    (ha : Grantable s a) (hn : Nameable s n) (hd : accountDecline s n = none)
    (hm : s.mode ≠ .service → (s.plans.get (s.accounts.get n).plan).m ≤ hold) :
    Books (openJob s a n false ceiling hold) (claims (openJob s a n false ceiling hold)) := by
  obtain ⟨stations, cards, books⟩ := accountLaw_iff.1 law
  obtain ⟨unloaded, suspended, loaded⟩ := loaded_of_accountDecline hd
  have low := regular_of_nameable cards hn
  have status : (s.accounts.get n).status = .openAccount := by
    rcases books.regular n low with w | w | w
    · exact absurd w unloaded
    · exact w
    · exact absurd w suspended
  obtain ⟨ns, e⟩ := openJob_eq s a n false ceiling hold
  rw [e]
  refine Books.perm ?_ (claims_perm_opened (claimAt_of_grantable stations ha) rfl (congrArg some (claimOf_openingJob ..)))
  refine books.opened rfl rfl rfl rfl (fun _ => .inl status) (fun high => absurd low (Nat.not_lt_of_le high)) ?_ loaded
    (fun service => hm ?_)
  · simpa using low
  · simpa using service

/-- A guest grant keeps the books: its slot is filled in the action that opens its job (R37). -/
theorem AccountLaw.guestGranted {s : State} (law : AccountLaw s) {a : Addr} {n : AccountNo} {amount : Nat}
    {plan : PlanNo} {rights : Rights} (tag : Tag) (ha : HoldsChannel s a) (ok : guestRefusal s amount plan rights = .ok n) :
    Books (openJob (setAccount s n (guestAccount amount plan rights tag)) a n true none (guestHold s amount plan))
      (claims (openJob (setAccount s n (guestAccount amount plan rights tag)) a n true none (guestHold s amount plan))) := by
  obtain ⟨stations, _, books⟩ := accountLaw_iff.1 law
  obtain ⟨loaded, funds, free, high⟩ := of_guestRefusal_ok ok
  have empty := books.idle n (.inr free)
  have holds : (s.accounts.get n).holdsTotal = 0 := by rw [books.holds, empty]; rfl
  have count : (s.accounts.get n).openJobs = 0 := by rw [books.count, empty]; rfl
  obtain ⟨ns, e⟩ := openJob_eq (setAccount s n (guestAccount amount plan rights tag)) a n true none (guestHold s amount plan)
  simp only [setAccount_accounts, Table.get_set_self, Table.set_set] at e
  rw [e]
  refine Books.perm ?_
    (claims_perm_opened (claimAt_of_grantable stations (.inr ha)) rfl (congrArg some (claimOf_openingJob ..)))
  refine books.opened rfl rfl ?_ ?_ (fun low => absurd high (Nat.not_le_of_lt low)) (fun _ => ⟨rfl, free⟩) ?_ loaded
    (fun service => ?_)
  · simp [chargedAccount, guestAccount, holds]
  · simp [chargedAccount, guestAccount, count]
  · simpa using high
  · have mode : s.mode ≠ .service := by simpa using service
    exact le_guestHold mode (funds mode) (books.terms plan loaded)

/-! ### Closes, extensions, resets -/

/-- A close keeps the books (R89). -/
theorem Books.takenOff {s : State} (books : Books s (claims s)) {a : Addr} (reason : EndReason) {j : Job}
    (hj : claimAt s a = some (claimOf j)) : Books (takeOff s a reason j) (claims (takeOff s a reason j)) := by
  obtain ⟨accounts, plans, _⟩ := takeOff_tables s a reason j
  have listed := books.perm (claims_perm_closed hj (takeOff_stations s a reason j) rfl)
  refine listed.closed (c := claimOf j) accounts plans (fun g => ?_) (fun g => ?_)
  · simp only [claimOf] at g ⊢
    simp [releasedAccount, g, settledAccount]
  · simp only [claimOf] at g
    simp [releasedAccount, g]

/-- An extension keeps the books (R80). -/
theorem Books.extendedJob {s : State} (books : Books s (claims s)) {a : Addr} {j : Job}
    (hj : claimAt s a = some (claimOf j)) : Books (extend s a j) (claims (extend s a j)) := by
  obtain ⟨l, before, after⟩ := claims_perm_changed (t := extend s a j) (d := { claimOf j with
    hold := j.hold + (offer s j).toNat }) hj rfl rfl
  exact ((books.perm before).extended (offer s j).toNat (t := extend s a j) rfl rfl rfl rfl rfl).perm after

theorem claims_of_no_job {s : State} (h : ∀ a, claimAt s a = none) : claims s = [] := by
  simp [claims, h]

/-- The floor taken down with every job closed keeps the books (R63). -/
theorem AccountLaw.floorDown {s : State} (law : AccountLaw s)
    (h : ∀ a : Addr, hasOpenJob (s.stations.get a).state = true → jobAt s a = none) :
    Books (floorDown (freeChannels s)) (claims (floorDown (freeChannels s))) := by
  obtain ⟨stations, _, books⟩ := accountLaw_iff.1 law
  have before (a : Addr) : claimAt s a = none := by
    cases hj : jobAt s a with
    | none => simp [claimAt, hj]
    | some j => rw [h a ((stations.job a).symm.trans (by rw [hj]; rfl))] at hj; cases hj
  have after (a : Addr) : claimAt (Machine.floorDown (freeChannels s)) a = none := by
    simp [claimAt, jobAt, Machine.floorDown, startSweep, Station.reset]
  rw [claims_of_no_job before] at books
  rw [claims_of_no_job after]
  exact books.of_eq

theorem AccountLaw.move {s t : State} (m : Move s t) (law : AccountLaw s) : AccountLaw t := by
  obtain ⟨stations, cards, books⟩ := accountLaw_iff.1 law
  refine accountLaw_iff.2 ⟨stations.move m, cards.move m, ?_⟩
  cases m with
  | links e => exact books.same (.of_stations e.stations e.accounts e.plans)
  | reset e =>
    rw [claims_of_no_job fun a => (claimAt_congr e.stations a).trans (claimAt_reset a)]
    exact books_reset.of_eq e.accounts e.plans
  | station a r hs hc hj => exact books.same (.of_set rfl hj)
  | enter a st hs => exact books.same (.of_set rfl rfl)
  | account n x hs hh ho =>
    refine books.congr (fun k => ?_)
    rw [setAccount_accounts, Table.get_set]
    split
    next e => exact e ▸ ⟨hs, hh, ho⟩
    next => exact ⟨rfl, rfl, rfl⟩
  | accountWritten n x hn none count holds status => exact books.written hn none count holds status
  | accountStatus n st hn _ status => exact books.restatused hn status
  | plan p x none zero terms => exact books.planned none zero terms
  | online a card _ => exact books.same (sameBooks_goOnline s a card)
  | ended a _ => exact books.same (sameBooks_endAuthorization s a)
  | endedAll => exact books.same (sameBooks_endAuthorizations s)
  | granted a n ceiling hold ha hn hd _ hm => exact law.granted ceiling ha hn hd hm
  | guestGranted a n amount plan rights tag ha ok => exact law.guestGranted tag ha ok
  | settled a reason j hj => exact books.takenOff reason hj
  | extended a j hj => exact books.extendedJob hj
  | floorDown h => exact law.floorDown h
  | _ => exact books.same .of_stations

/-- Settles O56: every move keeps the account law, and a step is made of moves. -/
theorem stepKeepsTheAccountLaw : Obligations.StepKeepsTheAccountLaw :=
  fun _ _ law h => step_keeps (fun _ _ => AccountLaw.move) h law

end Sys2Proof.Machine

namespace Sys2Proof.Machine

set_option Elab.async false

/-! ## Operands, and what a request comes to -/

/-! ### Fields in range and out of range (0.5, R166) -/

theorem accountNo_val (n : AccountNo) : accountNo n.val = some n := by simp [accountNo]

theorem accountNo_eq_none {n : Nat} (h : 512 ≤ n) : accountNo n = none := by
  rw [accountNo, dif_neg (by omega)]

theorem regularNo_val {n : AccountNo} (h : n.val < 480) : regularNo n.val = some n := regularNo_eq_some.2 ⟨rfl, h⟩

theorem planNo_val (p : PlanNo) : planNo p.val = some p := by simp [planNo]

theorem planNo_eq_none {n : Nat} (h : 8 ≤ n) : planNo n = none := by
  rw [planNo, dif_neg (by omega)]

theorem rightsOf_eq_some {b : Byte} (h : b.toNat < 64) : rightsOf b = some (rightsIn b) := by
  rw [rightsOf, if_pos h]
  rfl

theorem rightsOf_eq_none {b : Byte} (h : 64 ≤ b.toNat) : rightsOf b = none := by
  rw [rightsOf, if_neg (by omega)]

theorem balanceInRange_iff {b : Int} : balanceInRange b = true ↔ -9999999 ≤ b ∧ b ≤ 99999999 := by
  unfold balanceInRange
  rw [Bool.and_eq_true]
  exact and_congr decide_eq_true_iff decide_eq_true_iff

theorem accountStatusOf_eq_none {n : Nat} (h : 5 ≤ n) : accountStatusOf n = none := by
  rw [accountStatusOf, List.getElem?_eq_none_iff]
  exact h

/-- The status WRITE ACCOUNT may give has code 1 or 2 (R6, R166). -/
theorem loadedStatusOf_eq (n : Nat) :
    loadedStatusOf n = if n = 1 then some .openAccount else if n = 2 then some .suspended else none := by
  match n with
  | 0 | 1 | 2 | 3 | 4 => rfl
  | n + 5 => simp [loadedStatusOf, accountStatusOf_eq_none (show 5 ≤ n + 5 by omega)]

/-- The status SET ACCOUNT STATUS may give has code 0, 1 or 2 (R9, R166). -/
theorem regularStatusOf_eq_none {n : Nat} (h : 3 ≤ n) : regularStatusOf n = none := by
  match n with
  | 0 | 1 | 2 => omega
  | 3 | 4 => rfl
  | n + 5 => simp [regularStatusOf, accountStatusOf_eq_none (show 5 ≤ n + 5 by omega)]

theorem holdInRange_iff {n : Nat} : holdInRange n = true ↔ 1 ≤ n ∧ n ≤ 999999 := by
  unfold holdInRange
  rw [Bool.and_eq_true]
  exact and_congr decide_eq_true_iff decide_eq_true_iff

theorem flagOf_eq_none {n : Nat} (h : 2 ≤ n) : flagOf n = none := by
  rw [flagOf, if_neg (by omega), if_neg (by omega)]

theorem flagOf_eq_some {n : Nat} (h : n ≤ 1) : flagOf n = some (decide (n = 1)) := by
  match n with
  | 0 | 1 => rfl
  | n + 2 => omega

/-- A hold ceiling field up to 999,999 is one, 0 for none (R14, R171). -/
theorem ceilingOf_eq_some {n : Nat} (h : n ≤ 999999) : ceilingOf n = some (if n = 0 then none else some n) := by
  unfold ceilingOf
  split
  · rfl
  next pos => rw [if_pos (holdInRange_iff.2 ⟨by omega, h⟩)]

theorem ceilingOf_eq_none {n : Nat} (h : 999999 < n) : ceilingOf n = none := by
  have out : ¬ holdInRange n = true := fun r => by
    have := holdInRange_iff.1 r
    omega
  rw [ceilingOf, if_neg (by omega), if_neg out]

/-! ### Replies -/

/-- A request is answered with what its function comes to, the window closed (R157, R162). -/
theorem request_answered {k : OfficeKind} {req : Nat} {s t : State} {f : State → Reply} {status : Status}
    {figures : Figures} (h : s.resetLow = false) (r : f { s with window := none } = ⟨status, figures, t⟩) :
    request k req s f = .next (answered t k req status figures) := by
  rw [request_eq k req s f h, r]
  rfl

/-- A request refused leaves everything but the window (R162). -/
theorem request_refused {k : OfficeKind} {req : Nat} {s : State} {f : State → Reply} {status : Status}
    (h : s.resetLow = false) (r : f { s with window := none } = refuse status { s with window := none }) :
    request k req s f = .next (answered { s with window := none } k req status .none) :=
  request_answered h r

/-! ## Accounts (R6 to R11) -/

/-! ### WRITE ACCOUNT (R6) -/

theorem writeAccount_badRequest {p : AccountPayload} (s : State)
    (h : 480 ≤ p.number ∨ (p.status ≠ 1 ∧ p.status ≠ 2) ∨ p.balance < -9999999 ∨ 99999999 < p.balance ∨ 8 ≤ p.plan
      ∨ 64 ≤ p.rights.toNat) : writeAccount p s = refuse .badRequest s := by
  have balance (out : p.balance < -9999999 ∨ 99999999 < p.balance) : balanceInRange p.balance = false := by
    rw [Bool.eq_false_iff]
    intro inside
    have := balanceInRange_iff.1 inside
    omega
  unfold writeAccount
  rcases h with h | h | h | h | h | h
  · rw [regularNo_eq_none.2 h]
  · rw [loadedStatusOf_eq, if_neg h.1, if_neg h.2]; cases regularNo p.number <;> rfl
  · rw [balance (.inl h)]; split <;> rfl
  · rw [balance (.inr h)]; split <;> rfl
  · rw [planNo_eq_none h]; split <;> trivial
  · rw [rightsOf_eq_none h]; split <;> trivial

/-- The record that WRITE ACCOUNT leaves, as the model writes it (R6). -/
def writtenAccount (x : Account) (p : AccountPayload) (status : AccountStatus) (plan : PlanNo) (rights : Rights) :
    Account :=
  { x with
    status, balance := p.balance, creditLimit := min p.creditLimit 9999999, plan, discount := min p.discount 900
    rights, changed := false, guestTag := none }

theorem writeAccount_eq {p : AccountPayload} {n : AccountNo} {status : AccountStatus} {plan : PlanNo} {rights : Rights}
    (s : State) (hn : regularNo p.number = some n) (hst : loadedStatusOf p.status = some status)
    (hp : planNo p.plan = some plan) (hr : rightsOf p.rights = some rights) (hb : balanceInRange p.balance = true) :
    writeAccount p s = if (s.accounts.get n).openJobs ≠ 0 then refuse .inUse s
      else accept (.account n (writtenAccount (s.accounts.get n) p status plan rights))
        (setAccount s n (writtenAccount (s.accounts.get n) p status plan rights)) := by
  simp only [writeAccount, hn, hst, hp, hr, hb]
  rfl

/-- Settles O8: each check that fails refuses, and the checks passed fix every field of the record written. -/
theorem writeAccountChecksAndWrites : Obligations.WriteAccountChecksAndWrites := by
  intro s req p low
  refine ⟨fun h => request_refused low (writeAccount_badRequest _ h), ?_⟩
  intro n q number regular plan rights least most status
  have loaded : loadedStatusOf p.status = some (if p.status = 1 then .openAccount else .suspended) := by
    rw [loadedStatusOf_eq]
    rcases status with e | e <;> simp [e]
  have written := writeAccount_eq { s with window := none } (number ▸ regularNo_val regular) loaded
    (plan ▸ planNo_val q) (rightsOf_eq_some rights) (balanceInRange_iff.2 ⟨least, most⟩)
  split
  next busy => exact request_refused low (written.trans (if_pos busy))
  next free => exact request_answered low (written.trans (if_neg free))

end Sys2Proof.Machine

namespace Sys2Proof.Machine

set_option Elab.async false

/-! ### SET ACCOUNT LIMITS (R7, R8) -/

theorem isLoaded_iff {x : Account} : isLoaded x = true ↔ x.status = .openAccount ∨ x.status = .suspended := by
  simp [isLoaded]

theorem optPlan_eq_some (q : Option PlanNo) : optPlan (q.map Fin.val) = some q := by
  cases q with
  | none => rfl
  | some q => simp [optPlan, planNo_val]

theorem optRights_eq_some {r : Option Byte} (h : ∀ b, r = some b → b.toNat < 64) :
    optRights r = some (r.map rightsIn) := by
  cases r with
  | none => rfl
  | some b => simp [optRights, rightsOf_eq_some (h b rfl)]

theorem setAccountLimits_badRequest {account : Nat} {limit plan discount : Option Nat} {rights : Option Byte} (s : State)
    (h : 480 ≤ account ∨ (∃ q, plan = some q ∧ 8 ≤ q) ∨ (∃ b, rights = some b ∧ 64 ≤ b.toNat)) :
    setAccountLimits account limit plan discount rights s = refuse .badRequest s := by
  unfold setAccountLimits
  rcases h with h | ⟨q, rfl, h⟩ | ⟨b, rfl, h⟩
  · rw [regularNo_eq_none.2 h]
  · rw [show optPlan (some q) = none by simp [optPlan, planNo_eq_none h]]
    cases regularNo account <;> rfl
  · rw [show optRights (some b) = none by simp [optRights, rightsOf_eq_none h]]
    cases regularNo account <;> cases optPlan plan <;> rfl

/-- The retries follow a new credit limit exactly when it is above the old one (R2, R8). -/
theorem retryIfRisen_of_limits (s : State) (n : AccountNo) (x y : Account) (balance : y.balance = x.balance)
    (holds : y.holdsTotal = x.holdsTotal) :
    retryIfRisen (available x) (setAccount s n y) n =
      if x.creditLimit < y.creditLimit then retryAccount (setAccount s n y) n else setAccount s n y := by
  have risen : available x < available ((setAccount s n y).accounts.get n) ↔ x.creditLimit < y.creditLimit := by
    simp only [setAccount_accounts, Table.get_set_self, available, balance, holds]
    omega
  simp only [retryIfRisen, risen]

theorem limitedAccount_eq (x : Account) (limit : Option Nat) (plan : Option PlanNo) (discount : Option Nat)
    (rights : Option Rights) : limitedAccount x limit plan discount rights =
      { x with
        creditLimit := (limit.map (min 9999999)).getD x.creditLimit
        plan := plan.getD x.plan
        discount := (discount.map (min 900)).getD x.discount
        rights := rights.getD x.rights } := by
  have credit : (fun n => min n Config.maxCreditLimit) = min 9999999 := funext fun n => Nat.min_comm _ _
  have rebate : (fun n => min n Config.maxDiscount) = min 900 := funext fun n => Nat.min_comm _ _
  rw [limitedAccount, credit, rebate]

theorem setAccountLimits_eq {n : AccountNo} {limit plan discount : Option Nat} {rights : Option Byte}
    {q : Option PlanNo} {r : Option Rights} {y : Account} (s : State) (hn : n.val < 480) (hp : optPlan plan = some q)
    (hr : optRights rights = some r) (hy : limitedAccount (s.accounts.get n) limit q discount r = y) :
    setAccountLimits n.val limit plan discount rights s =
      if isLoaded (s.accounts.get n) = true then
        accept (.limits y.creditLimit y.plan y.discount y.rights)
          (if (s.accounts.get n).creditLimit < y.creditLimit then retryAccount (setAccount s n y) n
            else setAccount s n y)
      else refuse .notFound s := by
  have retried := retryIfRisen_of_limits s n (s.accounts.get n) y (by rw [← hy]; rfl) (by rw [← hy]; rfl)
  simp only [setAccountLimits, regularNo_val hn, hp, hr, hy, retried]
  cases isLoaded (s.accounts.get n) <;> rfl

/-- Settles O9: a loaded record takes the fields present, and its available amount rises with its credit limit. -/
theorem setAccountLimitsKeepsAbsentFields : Obligations.SetAccountLimitsKeepsAbsentFields := by
  intro s req account limit plan discount rights low
  refine ⟨fun h => request_refused low (setAccountLimits_badRequest _ h), ?_⟩
  rintro n q rfl regular rfl named
  have limits := setAccountLimits_eq { s with window := none } regular (optPlan_eq_some q) (optRights_eq_some named)
    (limitedAccount_eq (s.accounts.get n) limit q discount (rights.map rightsIn))
  dsimp only
  split
  next loaded => exact request_answered low (limits.trans (if_pos (isLoaded_iff.2 loaded)))
  next other => exact request_refused low (limits.trans (if_neg (mt isLoaded_iff.1 other)))

/-! ### SET ACCOUNT STATUS (R9) -/

theorem setAccountStatus_badRequest {account status : Nat} (s : State) (h : 480 ≤ account ∨ 3 ≤ status) :
    setAccountStatus account status s = refuse .badRequest s := by
  unfold setAccountStatus
  rcases h with h | h
  · rw [regularNo_eq_none.2 h]
  · rw [regularStatusOf_eq_none h]
    cases regularNo account <;> rfl

theorem setAccountStatus_unload {n : AccountNo} (s : State) (hn : n.val < 480) :
    setAccountStatus n.val 0 s = unloadAccount n s := by
  rw [setAccountStatus, regularNo_val hn]
  rfl

/-- OPEN or SUSPENDED given to a regular record (R9). -/
theorem setAccountStatus_change {n : AccountNo} {code : Nat} {st : AccountStatus} (s : State) (hn : n.val < 480)
    (code_eq : regularStatusOf code = some st) (loaded : st ≠ .unloaded) :
    setAccountStatus n.val code s = changeStatus n st s := by
  rw [setAccountStatus, regularNo_val hn, code_eq]
  cases st <;> trivial

theorem changeStatus_answered {n : AccountNo} {code : Nat} {st : AccountStatus} {s : State} (req : Nat)
    (low : s.resetLow = false) (hn : n.val < 480) (code_eq : regularStatusOf code = some st) (loaded : st ≠ .unloaded) :
    exec (.setAccountStatus req n.val code) s = .next (
      if (s.accounts.get n).status = .unloaded
      then answered { s with window := none } .setAccountStatus req .notFound .none
      else if (s.accounts.get n).status = st then answered { s with window := none } .setAccountStatus req .ok .none
      else answered
        (if st = .openAccount
          then retryAccount (setAccount { s with window := none } n { s.accounts.get n with status := st }) n
          else setAccount { s with window := none } n { s.accounts.get n with status := st })
        .setAccountStatus req .ok .none) := by
  have change := setAccountStatus_change { s with window := none } hn code_eq loaded
  unfold changeStatus at change
  split
  next unloaded => exact request_refused low (change.trans (if_pos unloaded))
  next other =>
    replace change := change.trans (if_neg other)
    split
    next same => exact request_answered low (change.trans (if_pos same))
    next differs => exact request_answered low (change.trans (if_neg differs))

/-- Settles O10, row by row of R9's table. -/
theorem setAccountStatusFollowsItsTable : Obligations.SetAccountStatusFollowsItsTable := by
  intro s req account status n low
  refine ⟨fun h => request_refused low (setAccountStatus_badRequest _ h), fun regular => ⟨?_, ?_, ?_⟩⟩
  · have unload := setAccountStatus_unload { s with window := none } regular
    unfold unloadAccount at unload
    split
    next busy => exact request_refused low (unload.trans (if_pos busy))
    next free =>
      replace unload := unload.trans (if_neg free)
      split
      next same => exact request_answered low (unload.trans (if_pos same))
      next other => exact request_answered low (unload.trans (if_neg other))
  · exact changeStatus_answered req low regular (st := .openAccount) rfl (by decide)
  · exact changeStatus_answered req low regular (st := .suspended) rfl (by decide)

/-! ### CHANGED ACCOUNTS (R11) -/

theorem mem_allAccounts (n : AccountNo) : n ∈ allAccounts :=
  List.mem_filterMap.2 ⟨n.val, List.mem_range.2 n.isLt, accountNo_val n⟩

/-- The record numbers are ascending. -/
theorem allAccounts_sorted : allAccounts.Pairwise (· < ·) := by
  refine List.pairwise_lt_range.filterMap accountNo fun a b less x hx y hy => ?_
  unfold accountNo at hx hy
  split at hx <;> cases hx
  split at hy <;> cases hy
  exact less

theorem mem_changedNumbers {s : State} {n : AccountNo} : n ∈ changedNumbers s ↔ (s.accounts.get n).changed = true := by
  simp [changedNumbers, mem_allAccounts]

theorem changedNumbers_sorted (s : State) : (changedNumbers s).Pairwise (· < ·) := allAccounts_sorted.filter _

/-- Flags cleared one after another: the records named lose theirs, nothing else changes (R11). -/
theorem clearChanged_foldl (l : List AccountNo) (s : State) :
    l.foldl clearChanged s = { s with accounts := (l.foldl clearChanged s).accounts }
      ∧ ∀ n : AccountNo, (l.foldl clearChanged s).accounts.get n =
        if n ∈ l then { s.accounts.get n with changed := false } else s.accounts.get n := by
  induction l generalizing s with
  | nil => exact ⟨rfl, fun n => by simp⟩
  | cons m l ih =>
    obtain ⟨frame, records⟩ := ih (clearChanged s m)
    refine ⟨frame, fun n => ?_⟩
    rw [List.foldl_cons, records]
    simp only [clearChanged, setAccount_accounts, Table.get_set, List.mem_cons]
    by_cases e : n = m
    · subst e; simp
    · simp [e]

/-- In an ascending list every entry taken comes before every entry left. -/
theorem lt_of_mem_take_of_mem_drop {n : Nat} {l : List (Fin n)} (sorted : l.Pairwise (· < ·)) {k : Nat} {x y : Fin n}
    (hx : x ∈ l.take k) (hy : y ∈ l.drop k) : x < y := by
  rw [← List.take_append_drop k l] at sorted
  exact (List.pairwise_append.1 sorted).2.2 x hx y hy

/-- Settles O11: the numbers reported are the first 32 of the ascending list of changed records. -/
theorem changedAccountsReportsAndClears : Obligations.ChangedAccountsReportsAndClears := by
  intro s req low
  have sorted := changedNumbers_sorted s
  have left {n : AccountNo} (changed : (s.accounts.get n).changed = true) (out : n ∉ (changedNumbers s).take 32) :
      n ∈ (changedNumbers s).drop 32 := by
    have listed := mem_changedNumbers.2 changed
    rw [← List.take_append_drop 32 (changedNumbers s)] at listed
    exact (List.mem_append.1 listed).resolve_left out
  obtain ⟨frame, records⟩ := clearChanged_foldl ((changedNumbers s).take 32) { s with window := none }
  refine ⟨(changedNumbers s).take 32, decide (32 < (changedNumbers s).length),
    ((changedNumbers s).take 32).foldl clearChanged { s with window := none }, request_answered low rfl, frame,
    List.length_take_le _ _, sorted.sublist (List.take_sublist _ _),
    fun n hn => mem_changedNumbers.1 (List.mem_of_mem_take hn), records,
    fun n m changed out hm => lt_of_mem_take_of_mem_drop sorted hm (left changed out), fun few n changed => ?_, ?_⟩
  · by_contra out
    have := List.length_pos_of_mem (left changed out)
    rw [List.length_take] at few
    rw [List.length_drop] at this
    omega
  · rw [decide_eq_true_iff]
    constructor
    · intro more
      obtain ⟨n, hn⟩ := List.exists_mem_of_length_pos (l := (changedNumbers s).drop 32) (by rw [List.length_drop]; omega)
      refine ⟨n, mem_changedNumbers.1 (List.mem_of_mem_drop hn), fun hm => ?_⟩
      exact lt_irrefl n (lt_of_mem_take_of_mem_drop sorted hm hn)
    · rintro ⟨n, changed, out⟩
      have := List.length_pos_of_mem (left changed out)
      rw [List.length_drop] at this
      omega

end Sys2Proof.Machine

namespace Sys2Proof.Machine

set_option Elab.async false

/-! ## The card map (R12 to R17) -/

/-- The first entry of an ascending list that meets a check is the lowest one that does. -/
theorem find?_eq_some_of_lowest {n : Nat} {l : List (Fin n)} {p : Fin n → Bool} {x : Fin n}
    (sorted : l.Pairwise (· < ·)) (mem : x ∈ l) (meets : p x = true) (lowest : ∀ y, y < x → p y = false) :
    l.find? p = some x := by
  induction l with
  | nil => cases mem
  | cons y l ih =>
    obtain ⟨first, rest⟩ := List.pairwise_cons.1 sorted
    rcases List.mem_cons.1 mem with rfl | mem
    · exact List.find?_cons_of_pos meets
    · rw [List.find?_cons_of_neg (by simp [lowest y (first x mem)])]
      exact ih rest mem

theorem freeWay_eq_some {s : State} {card : Nat} {w : WayNo} (free : cardAt s (bucketOf card) w = none)
    (lowest : ∀ v, v < w → cardAt s (bucketOf card) v ≠ none) : freeWay s card = some w :=
  find?_eq_some_of_lowest (by decide) (mem_allWays w) (by simpa [cardAt] using free)
    (fun v hv => by simpa [cardAt] using Option.isSome_iff_ne_none.2 (lowest v hv))

theorem freeWay_eq_none {s : State} {card : Nat} (full : ∀ w, cardAt s (bucketOf card) w ≠ none) :
    freeWay s card = none := by
  rw [freeWay, List.find?_eq_none]
  intro w _
  simpa [cardAt] using full w

theorem bucketOf_eq {card : Nat} {b : BucketNo} (h : b.val = card % 65521 % 256) : bucketOf card = b :=
  Fin.ext h.symm

/-- The way that holds a card, found by the card's number. -/
theorem wayOf_eq_some {s : State} (law : CardLaw s) {card : Nat} {w : WayNo} {e : CardEntry}
    (held : cardAt s (bucketOf card) w = some e) (same : e.card = card) : wayOf s card = some w := by
  subst same
  exact wayOf_of_cardAt law held

theorem not_cardInRange {n : Nat} (h : n = 0 ∨ 9999999999999999999 < n) : cardInRange n = false := by
  rw [Bool.eq_false_iff]
  intro inside
  have := cardInRange_iff.1 inside
  omega

/-! ### WRITE CARD (R14, R15) -/

theorem writeCard_badRequest {p : CardPayload} (s : State)
    (h : p.card = 0 ∨ 9999999999999999999 < p.card ∨ 480 ≤ p.account ∨ 999999 < p.ceiling ∨ 2 ≤ p.gated) :
    writeCard p s = refuse .badRequest s := by
  have outside (out : p.card = 0 ∨ 9999999999999999999 < p.card) : writeCard p s = refuse .badRequest s := by
    unfold writeCard
    rw [not_cardInRange out]
    split <;> rfl
  rcases h with h | h | h | h | h
  · exact outside (.inl h)
  · exact outside (.inr h)
  · rw [writeCard, regularNo_eq_none.2 h]
  · rw [writeCard, ceilingOf_eq_none h]; cases regularNo p.account <;> rfl
  · rw [writeCard, flagOf_eq_none h]; split <;> trivial

/-- R15's check: a ceiling below the minimum charge of the loaded plan of a loaded record. -/
theorem ceilingTooLow_iff (s : State) (n : AccountNo) (ceiling : Nat) :
    ceilingTooLow s n (if ceiling = 0 then none else some ceiling) = true ↔
      ceiling ≠ 0 ∧ ((s.accounts.get n).status = .openAccount ∨ (s.accounts.get n).status = .suspended)
        ∧ (s.plans.get (s.accounts.get n).plan).loaded = true ∧ ceiling < (s.plans.get (s.accounts.get n).plan).m := by
  unfold ceilingTooLow
  by_cases zero : ceiling = 0
  · simp [zero]
  · simp [zero, isLoaded, and_assoc]

/-- A card in range that passes R15's check is stored in the way WRITE CARD picks (R14). -/
theorem writeCard_eq {p : CardPayload} {n : AccountNo} {ceiling : Option Nat} {gated : Bool} (s : State)
    (hc : cardInRange p.card = true) (hn : regularNo p.account = some n) (hl : ceilingOf p.ceiling = some ceiling)
    (hg : flagOf p.gated = some gated) :
    writeCard p s = if ceilingTooLow s n ceiling = true then refuse .badRequest s else
      match writeWay s p.card with
      | none => refuse .bucketFull s
      | some w => accept (.cardPlace (bucketOf p.card) w) (setBucket s (bucketOf p.card)
          ((s.cards.get (bucketOf p.card)).set w (some ⟨p.card, n, ceiling, gated⟩))) := by
  simp only [writeCard, hn, hl, hg, hc]
  rfl

/-- Settles O12: the way picked is the card's own under the card law, else the lowest free one of its bucket. -/
theorem writeCardFillsItsBucket : Obligations.WriteCardFillsItsBucket := by
  intro s req p n b low law
  refine ⟨fun h => request_refused low (writeCard_badRequest _ h), ?_⟩
  intro least most account regular ceiling gated bucket
  have place := bucketOf_eq bucket
  have write := writeCard_eq { s with window := none } (cardInRange_iff.2 ⟨least, most⟩)
    (account ▸ regularNo_val regular) (ceilingOf_eq_some ceiling) (flagOf_eq_some gated)
  have check := ceilingTooLow_iff { s with window := none } n p.ceiling
  rw [place] at write
  refine ⟨fun poor => request_refused low (write.trans (if_pos (check.2 poor))), fun fair => ?_⟩
  replace write := write.trans (if_neg (mt check.1 fair))
  have fills {w : WayNo} (picked : writeWay { s with window := none } p.card = some w) := by
    rw [picked] at write
    exact request_answered (k := .writeCard) (req := req) low write
  refine ⟨fun w held => fills ?_, fun absent => ?_⟩
  · obtain ⟨e, held, same⟩ := Option.map_eq_some_iff.1 held
    rw [writeWay, wayOf_eq_some (s := { s with window := none }) law (place ▸ held) same]
  · have none : wayOf { s with window := none } p.card = none := wayOf_eq_none.2 (place ▸ absent)
    refine ⟨fun w free lowest => fills ?_, fun full => ?_⟩
    · rw [writeWay, none]
      exact freeWay_eq_some (place ▸ free) (place ▸ lowest)
    · rw [writeWay, none, freeWay_eq_none (s := { s with window := .none }) (place ▸ full)] at write
      exact request_refused low write

/-! ### REMOVE CARD and READ CARD (R16, R17) -/

/-- Settles O13: under the card law the way found for a card is the one that holds it. -/
theorem removeAndReadCard : Obligations.RemoveAndReadCard := by
  intro s req n b low law
  refine ⟨fun out => ?_, fun least most bucket => ⟨fun w e held same => ?_, fun absent => ?_⟩⟩
  · have outside := not_cardInRange out
    exact ⟨request_refused low (by rw [removeCard, outside]; rfl), request_refused low (by rw [readCard, outside]; rfl)⟩
  · have place := bucketOf_eq bucket
    have inside := cardInRange_iff.2 ⟨least, most⟩
    have way : wayOf { s with window := none } n = some w := wayOf_eq_some law (place ▸ held) same
    have entry : entryOf { s with window := none } n = some e := by
      rw [entryOf, way, place]
      exact held
    constructor
    · exact request_answered low (by rw [removeCard, inside, way, place]; rfl)
    · exact request_answered low (by rw [readCard, inside, way, entry, place]; rfl)
  · have place := bucketOf_eq bucket
    have inside := cardInRange_iff.2 ⟨least, most⟩
    have way : wayOf { s with window := none } n = none := wayOf_eq_none.2 (place ▸ absent)
    constructor
    · exact request_refused low (by rw [removeCard, inside, way]; rfl)
    · exact request_refused low (by rw [readCard, inside, way]; rfl)

/-! ## Rate plans (R20) -/

theorem perClass_all_iff {α : Type} (f : α → Bool) (v : PerClass α) :
    v.all f = true ↔ ∀ c : ImpClass, f (classGet v c) = true := by
  constructor
  · intro h c
    simp only [PerClass.all, Bool.and_eq_true] at h
    cases c <;> simp [classGet, h]
  · intro h
    have sMono := h .sMono
    have sColour := h .sColour
    have sFull := h .sFull
    have lMono := h .lMono
    have lColour := h .lColour
    have lFull := h .lFull
    simp_all [PerClass.all, classGet]

/-- The ranges of a plan to be loaded (check 2 of R20). -/
theorem planFieldsOk_iff (p : PlanPayload) : planFieldsOk p = true ↔
    1 ≤ p.b1 ∧ p.b1 ≤ p.b2 ∧ p.b2 ≤ p.b3 ∧ p.b3 ≤ 65535
      ∧ (∀ c : ImpClass, (classGet p.rates c).t1 ≤ 65535 ∧ (classGet p.rates c).t2 ≤ 65535
          ∧ (classGet p.rates c).t3 ≤ 65535 ∧ (classGet p.rates c).t4 ≤ 65535)
      ∧ p.m ≤ 9999 ∧ 1 ≤ p.h ∧ p.h ≤ 999999 ∧ p.m ≤ p.h := by
  simp only [planFieldsOk, Bool.and_eq_true, decide_eq_true_eq, perClass_all_iff, holdInRange_iff, and_assoc]

theorem writePlan_eq {p : PlanPayload} {n : PlanNo} {load : Bool} (s : State) (hn : planNo p.number = some n)
    (hl : flagOf p.loaded = some load) (ok : load = true → planFieldsOk p = true) :
    writePlan p s = if (s.plans.get n).captures ≠ 0 then refuse .inUse s
      else accept .none (setPlan s n (if load then loadedPlan p else Plan.reset)) := by
  have passed : (load && !planFieldsOk p) = false := by
    cases load with
    | false => rfl
    | true => rw [ok rfl]; rfl
  simp only [writePlan, hn, hl, passed]
  rfl

/-- Settles O14: the checks of R20 in order, then the plan whole. -/
theorem writePlanChecksAndLoads : Obligations.WritePlanChecksAndLoads := by
  intro s req p low
  dsimp only
  rw [← planFieldsOk_iff]
  constructor
  · intro h
    refine request_refused low ?_
    unfold writePlan
    rcases h with h | h | ⟨h, bad⟩
    · rw [planNo_eq_none h]
    · rw [flagOf_eq_none h]; cases planNo p.number <;> rfl
    · rw [Bool.eq_false_iff.2 bad, flagOf_eq_some (by omega), h]
      cases planNo p.number <;> rfl
  · rintro n number h
    have load : p.loaded ≤ 1 := by omega
    have write := writePlan_eq { s with window := none } (number ▸ planNo_val n) (flagOf_eq_some load) fun one =>
      (h.resolve_left fun zero => by simp [zero] at one).2
    split
    next captured => exact request_refused low (write.trans (if_pos captured))
    next free =>
      have given : (if decide (p.loaded = 1) = true then loadedPlan p else Plan.reset) =
          if p.loaded = 0 then Plan.reset else ⟨true, p.b1, p.b2, p.b3, p.rates, p.m, p.h, 0⟩ := by
        rcases Nat.le_one_iff_eq_zero_or_eq_one.1 load with e | e <;> simp [e, loadedPlan]
      rw [given] at write
      exact request_answered low (write.trans (if_neg free))

end Sys2Proof.Machine

namespace Sys2Proof.Machine

set_option Elab.async false

/-! ## Reports (R2, R10, R21, R163) -/

/-- The owed range of the model is that of the statements (R47). -/
theorem owedSheets_eq (j : Job) : owedSheets j = owed j := by
  unfold owedSheets owed
  rw [List.range'_eq_map_range]
  refine List.filter_congr fun n _ => ?_
  rw [List.not_any_eq_all_not]
  rfl

theorem owedRange_eq (j : Job) :
    owedRange j = (owed j).head?.bind fun m => (owed j).getLast?.map fun n => (m, n) := by
  unfold owedRange
  rw [owedSheets_eq]
  cases owed j with
  | nil => rfl
  | cons n l => simp [List.getLast?_eq_some_getLast]

theorem queuePlace_eq (s : State) (a : Addr) :
    queuePlace s a = if a ∈ s.waitQueue then some (s.waitQueue.idxOf a + 1) else none := by
  simp [queuePlace]

/-- Effective enable: admin enable set, mode not CLOSED, address PRESENT (R139). -/
theorem effectiveEnable_eq (s : State) (a : Addr) : effectiveEnable s a =
    decide (s.adminEnable.get a = true ∧ s.mode ≠ .closed ∧ (s.presence.get a).state = .present) := by
  rw [Bool.eq_iff_iff]
  simp [effectiveEnable, and_assoc]

theorem sweeping_eq (s : State) : (s.sweep != .idle) = decide (s.sweep ≠ .idle) := by
  rw [Bool.eq_iff_iff]
  simp

theorem readStation_floorNumber (s : State) (a : Addr) :
    readStation (a.val + 1) s = accept (.station (stationReport s a)) s := by
  rw [readStation, show floorAddr (a.val + 1) = some a from floorAddr_floorNumber a]

/-- Settles O5: each report is the stored figures, and only window and responses change. -/
theorem reportsChangeNothing : Obligations.ReportsChangeNothing := by
  intro s req addr number a n p low
  refine ⟨request_answered low rfl, ?_, ?_, fun out => ?_, ?_, fun out => ?_, ?_, fun out => ?_⟩
  · refine (request_answered low rfl).trans ?_
    simp only [statusReport, sweeping_eq]
  · refine (request_answered low (readStation_floorNumber _ a)).trans ?_
    simp only [stationReport, queuePlace_eq, effectiveEnable_eq]
    have reports : jobReport = fun j => { jobReport j with
        owed := (owed j).head?.bind fun m => (owed j).getLast?.map fun n => (m, n) } :=
      funext fun j => by rw [← owedRange_eq]; rfl
    rw [reports]
    rfl
  · exact request_refused low (by rw [readStation, floorAddr_eq_none.2 out])
  · exact request_answered low (by rw [readAccount, accountNo_val]; rfl)
  · exact request_refused low (by rw [readAccount, accountNo_eq_none out])
  · exact request_answered low (by rw [readPlan, planNo_val]; rfl)
  · exact request_refused low (by rw [readPlan, planNo_eq_none out])

/-! ## The state after reset (R5, R18, R42, R73, R130, R140, R147) -/

theorem stations_reset (a : Addr) : State.reset.stations.get a = Station.reset := Table.get_fill _ a

theorem presence_reset (a : Addr) : State.reset.presence.get a = PresenceRecord.reset := Table.get_fill _ a

theorem jobAt_reset (a : Addr) : jobAt State.reset a = none := by rw [jobAt, stations_reset]; rfl

theorem openJobs_reset : openJobs State.reset = [] := by simp [openJobs, jobAt_reset]

theorem sheetLaw_reset : SheetLaw State.reset := fun a j h => by rw [jobAt_reset] at h; cases h

theorem accountLaw_reset : AccountLaw State.reset := by
  refine accountLaw_iff.2 ⟨stationLaw_reset, cardLaw_reset, ?_⟩
  rw [claims_of_no_job claimAt_reset]
  exact books_reset

theorem rangeLaw_reset : RangeLaw State.reset where
  sheets := sheetLaw_reset
  balance n := by rw [accounts_reset]; split <;> decide
  credit n := by rw [accounts_reset]; split <;> decide
  discount n := by rw [accounts_reset]; split <;> decide
  meters a := by rw [show State.reset.meters.get a = Meters.zero from Table.get_fill _ a]; decide
  timers := by decide
  misses a := by rw [presence_reset]; decide
  panel a := by rw [presence_reset]; decide

theorem floorLaw_reset : FloorLaw State.reset where
  stations := stationLaw_reset
  rest a _ := by rw [restState, presence_reset, stations_reset]; rfl
  present a h := by rw [presence_reset] at h; cases h
  lost a h := by rw [presence_reset] at h; cases h
  missing a _ := by rw [presence_reset, stations_reset]; exact ⟨rfl, rfl⟩
  detached a h := by rw [stations_reset] at h; cases h
  sweep _ a := by rw [stations_reset]; rfl
  probe a h := by cases h
  loss a h := by rw [presence_reset] at h; cases h

/-- Settles O50: after reset there is no job, no card, no notice and no record, and every station is OFFLINE. -/
theorem resetKeepsEveryLaw : Obligations.ResetKeepsEveryLaw where
  vend a := by rw [presence_reset, stations_reset]; rfl
  hold a j h := by rw [jobAt_reset] at h; cases h
  notice := List.Pairwise.nil
  card := cardLaw_reset
  sequence := sequenceLaw_reset
  journal := ⟨stationLaw_reset, by rw [openJobs_reset]; rfl, by decide⟩
  sheets := sheetLaw_reset
  account := accountLaw_reset
  range := rangeLaw_reset
  floor := floorLaw_reset

end Sys2Proof.Machine

namespace Sys2Proof.Machine

set_option Elab.async false

/-! ## Station records, seats and the idle timer (R43, R53, R140) -/

/-- The job's list is empty and no paper-out is kept (R53). -/
def idleDue (r : Station) : Bool := !r.engine.flags.paperOut && match r.job with
  | some j => j.inFlight.isEmpty
  | none => false

theorem idled_eq (t : PerTimer Nat) (r : Station) : idled t r =
    if r.state = .active then { r with timer := if idleDue r then some ⟨.idle, t.idle⟩ else none } else r := by
  obtain ⟨state, job, _, _, _, engine, _, _⟩ := r
  cases state with
  | active =>
    cases job with
    | none => simp [idled, idleDue]
    | some j =>
      by_cases empty : j.inFlight = [] <;> cases paper : engine.flags.paperOut <;>
        simp [idled, idleDue, empty, paper]
  | _ => rfl

theorem idled_of_not_active {t : PerTimer Nat} {r : Station} (h : r.state ≠ .active) : idled t r = r := by
  rw [idled_eq, if_neg h]

theorem idled_state (t : PerTimer Nat) (r : Station) : (idled t r).state = r.state := by
  rw [idled_eq]
  split <;> rfl

theorem idled_idled (t : PerTimer Nat) (r : Station) : idled t (idled t r) = idled t r := by
  by_cases active : r.state = .active
  · simp only [idled_eq, active, if_true]
    rfl
  · rw [idled_of_not_active active, idled_of_not_active active]

theorem setStation_self (s : State) (a : Addr) : setStation s a (s.stations.get a) = s := by
  rw [setStation, Table.set_get]

/-- Refreshing the idle timer is R53 on the station's record. -/
theorem refreshIdle_eq_idled (s : State) (a : Addr) :
    refreshIdle s a = setStation s a (idled s.timers (s.stations.get a)) := by
  have conditions : idleConditions s a = ((s.stations.get a).state == .active && idleDue (s.stations.get a)) :=
    Bool.and_assoc ..
  rw [idled_eq]
  rcases refreshIdle_cases s a with ⟨due, e⟩ | ⟨undue, active, e⟩ | ⟨_, other, e⟩ <;> rw [e]
  · rw [conditions, Bool.and_eq_true, beq_iff_eq] at due
    rw [if_pos due.1, due.2]
    rfl
  · rw [conditions, active] at undue
    rw [if_pos active, show idleDue (s.stations.get a) = false from undue]
    rfl
  · rw [if_neg other, setStation_self]

theorem lineHigh_eq (st : StationState) :
    lineHigh st = decide (st = .active ∨ st = .held ∨ st = .jammed ∨ st = .closing) := by
  cases st <;> rfl

/-- A station that takes a state is seated with it (R43, R140). -/
theorem enter_eq_seat (s : State) (a : Addr) (st : StationState) :
    enter s a st = seat s a { s.stations.get a with state := st, timer := none } := by
  simp only [enter, seat, setStation, setPresence, lineHigh_eq]

/-- A seated station's record replaced by one of the same state. -/
theorem setStation_seat {s : State} {a : Addr} {r x : Station} (h : x.state = r.state) :
    setStation (seat s a r) a x = seat s a x := by
  simp only [seat, setStation, Table.set_set, h]

theorem seat_setStation (s : State) (a : Addr) (r x : Station) : seat (setStation s a x) a r = seat s a r := by
  simp only [seat, setStation, Table.set_set]

@[simp] theorem seat_station (s : State) (a : Addr) (r : Station) : (seat s a r).stations.get a = r := by
  simp [seat]

@[simp] theorem seat_timers (s : State) (a : Addr) (r : Station) : (seat s a r).timers = s.timers := rfl

theorem refreshIdle_seat (s : State) (a : Addr) (r : Station) :
    refreshIdle (seat s a r) a = seat s a (idled s.timers r) := by
  rw [refreshIdle_eq_idled, seat_station, seat_timers, setStation_seat (idled_state _ _)]

/-! ## Grants in the words of the statements (R24, R26, R27, R128) -/

theorem journalHasRoom_iff {s : State} : journalHasRoom s = true ↔ SlotFree s := by
  unfold journalHasRoom SlotFree journalLevel
  exact decide_eq_true_iff

theorem hasModeRight_eq_false {m : ShopMode} {r : Rights} : hasModeRight m r = false ↔
    (m = .afterHours ∧ r.afterHours = false) ∨ (m = .service ∧ r.service = false) ∨ m = .closed := by
  cases m <;> simp [hasModeRight]

/-- The model's checks of a record are those of the statements (R24, R36). -/
theorem accountDecline_eq (s : State) (n : AccountNo) : accountDecline s n = recordCheck s (s.accounts.get n) := by
  simp only [accountDecline, recordCheck, Bool.not_eq_true', hasModeRight_eq_false]

theorem fundsShort_iff {s : State} {n : AccountNo} : fundsShort s n = true ↔ FundsShort s (s.accounts.get n) := by
  simp [fundsShort, FundsShort, available, leastFunds]

theorem requestedHold_eq (s : State) (lookup : Option CardLookup) : requestedHold s lookup = requested s lookup := by
  match lookup with
  | none => rfl
  | some ⟨_, some _, _⟩ => rfl
  | some ⟨n, none, _⟩ =>
    simp [requestedHold, requested]

/-- The JOURNAL_LEVEL notice falls due at 192 and at 256 (R128). -/
theorem noticeLevel_eq_levelNoted (s : State) : noticeLevel s = levelNoted s := by
  have marks : Config.journalMarks.contains (journalLevel s) = true ↔
      s.journal.length + s.reservations = 192 ∨ s.journal.length + s.reservations = 256 := by
    simp [Config.journalMarks, journalLevel]
  unfold noticeLevel levelNoted
  simp only [marks]
  rfl

/-- A grant is the statements' (R27). -/
theorem grant_eq_granted (s : State) (a : Addr) (n : AccountNo) (guest : Bool) (ceiling : Option Nat) (hold : Nat) :
    grant s a n guest ceiling hold = granted s a n guest ceiling hold := by
  obtain ⟨ch, q, ns, released⟩ := releaseAuthorization_eq (setAccount s n (chargedAccount (s.accounts.get n) hold)) a
  obtain ⟨ms, noted⟩ := noticeLevel_eq { setAccount s n (chargedAccount (s.accounts.get n) hold) with
    channels := ch, waitQueue := q, notices := ns, reservations := s.reservations + 1 }
  have service : decide (s.mode = .service) = (s.mode == .service) := rfl
  have opened : openJob s a n guest ceiling hold = seat { s with
      accounts := s.accounts.set n (chargedAccount (s.accounts.get n) hold), channels := ch, waitQueue := q
      reservations := s.reservations + 1, notices := ms
      plans := s.plans.set (s.accounts.get n).plan (capturedPlan (s.plans.get (s.accounts.get n).plan)) } a
      { s.stations.get a with
        state := .active, timer := none, authCard := none
        job := some (openingJob n guest (s.mode == .service) (s.accounts.get n) ceiling hold) } := by
    unfold openJob
    dsimp only
    rw [← chargedAccount, released]
    simp only [setAccount_reservations]
    rw [noted, enter_eq_seat, seat_setStation]
    simp
    rfl
  rw [grant_eq_openJob, opened, refreshIdle_seat]
  have charged : ({ s with accounts := s.accounts.set n { s.accounts.get n with
      holdsTotal := (s.accounts.get n).holdsTotal + hold, openJobs := (s.accounts.get n).openJobs + 1 } } : State)
      = setAccount s n (chargedAccount (s.accounts.get n) hold) := rfl
  unfold granted
  dsimp only
  rw [charged, released, ← noticeLevel_eq_levelNoted]
  simp only [setAccount_reservations]
  rw [noted]
  rfl

end Sys2Proof.Machine

namespace Sys2Proof.Machine

set_option Elab.async false

/-! ## The taking of an EVENT (R146, R151, R153, R154) -/

theorem heard_presence (s : State) (a : Addr) (sent : Option Message) :
    (heard s a sent).presence.get a =
      { confirmIn (s.presence.get a) sent with state := .present, misses := 0, lossTimer := none } := by
  simp [heard]

theorem confirmIn_toggle (p : PresenceRecord) (m : Option Message) : (confirmIn p m).toggle = p.toggle := by
  unfold confirmIn
  split <;> rfl

/-- A valid frame of the address polled is heard, then taken, and the visit ends (R146, R151). -/
theorem stationReply_of_polling {s : State} {a : Addr} {sent : Option Message} (h : Polling s a sent)
    (f : Addr → Bool → State → State) :
    stationReply (a.val + 1) s f = endExchange (f a false (heard s a sent)) := by
  obtain ⟨_, awaited, present, _⟩ := h
  simp only [stationReply, awaited, validReply, present]
  exact congrArg endExchange (if_pos rfl)

/-- With no sweep asked for, an ANSWER ends the visit (R150, R154). -/
theorem endExchange_sendAnswer {s : State} (a : Addr) (x : Answer) (idle : s.sweep = .idle) :
    endExchange (sendAnswer s a x) = taken s a x := by
  have quiet : (sendAnswer s a x).sweep ≠ .requested := by
    rw [show (sendAnswer s a x).sweep = s.sweep from rfl, idle]
    exact nofun
  exact if_neg quiet

/-- A new EVENT is taken on the state that heard it, its idle timer refreshed, and answered (R53, R154). -/
theorem stationReply_of_taking {s : State} {a : Addr} {sent : Option Message} {toggle : Bool}
    (h : Taking s a sent toggle) (kind : EventKind) {ju : State → Addr → EventResult} {r : EventResult}
    (result : ju (heard s a sent) a = r) (idle : r.state.sweep = .idle) :
    stationReply (a.val + 1) s (takeEvent toggle kind ju) =
      taken (refreshIdle r.state a) a { toggle, kind, outcome := r.outcome, attached := r.attached } := by
  obtain ⟨polling, fresh⟩ := h
  have new : ¬ ((heard s a sent).presence.get a).toggle = some toggle := by
    rw [heard_presence]
    simpa only [confirmIn_toggle] using fresh
  rw [stationReply_of_polling polling, takeEvent_idle _ _ _ _ _ _ 
    (show (returnIf false (heard s a sent) a).sweep = .idle from polling.2.2.2)]
  simp only [returnIf, Bool.false_eq_true, if_false, if_neg new, result]
  obtain ⟨t, e⟩ := refreshIdle_eq r.state a
  exact endExchange_sendAnswer a _ (by rw [e]; exact idle)

/-- A new CARD is taken by the station's state and answered (R23, R154). -/
theorem exec_card {s : State} {a : Addr} {sent : Option Message} {toggle : Bool} {n : Nat}
    (h : Taking s a sent toggle) (least : 1 ≤ n) (most : n ≤ 9999999999999999999) {r : EventResult}
    (result : takeCard n (heard s a sent) a = r) (idle : r.state.sweep = .idle) :
    exec (.card (a.val + 1) toggle n) s = .next (taken (refreshIdle r.state a) a
      { toggle, kind := .card, outcome := r.outcome, attached := r.attached }) := by
  rw [exec, execCard, whenRunning_eq _ _ h.1.1, if_pos (cardInRange_iff.2 ⟨least, most⟩),
    stationReply_of_taking h .card result idle]

/-! ## A CARD at an IDLE station (R13, R23 to R31) -/

/-- A mapped card yields what its entry holds (R13). -/
theorem lookupCard_eq_some {s : State} (law : CardLaw s) {card : Nat} {b : BucketNo} {w : WayNo} {e : CardEntry}
    (bucket : b.val = card % 65521 % 256) (held : cardAt s b w = some e) (same : e.card = card) :
    lookupCard s card = some ⟨e.account, e.ceiling, e.gated⟩ := by
  have place := bucketOf_eq bucket
  rw [lookupCard, entryOf, wayOf_eq_some law (place ▸ held) same, place]
  exact congrArg (Option.map _) held

/-- A card that no way of its bucket holds is not mapped (R13). -/
theorem lookupCard_eq_none {s : State} {card : Nat} {b : BucketNo} (bucket : b.val = card % 65521 % 256)
    (absent : ∀ w : WayNo, (cardAt s b w).map CardEntry.card ≠ some card) : lookupCard s card = none := by
  rw [lookupCard, entryOf, wayOf_eq_none.2 (bucketOf_eq bucket ▸ absent)]
  rfl

/-- The local checks of a mapped card, in order (R24, R25, R26). -/
theorem localChecks_some (s : State) (l : CardLookup) : localChecks s (some l) =
    match recordCheck s (s.accounts.get l.account) with
    | some r => .decline r
    | none =>
      if !journalHasRoom s then .decline .journalFull
      else if (s.accounts.get l.account).rights.gated || l.gated then .online
      else if fundsShort s l.account then .decline .funds
      else .grant l.account l.ceiling (holdGiven s (s.accounts.get l.account)
        (l.ceiling.getD (s.plans.get (s.accounts.get l.account).plan).h)) := by
  simp only [localChecks, accountDecline_eq]
  rfl

theorem takeCard_of_idle {s : State} {a : Addr} (idle : (s.stations.get a).state = .idle) (n : Nat) :
    takeCard n s a = authorizeCard n s a := by
  rw [takeCard, idle]

theorem setStation_setStation (s : State) (a : Addr) (x y : Station) :
    setStation (setStation s a x) a y = setStation s a y := by
  simp only [setStation, Table.set_set]

theorem granted_sweep (s : State) (a : Addr) (n : AccountNo) (guest : Bool) (ceiling : Option Nat) (hold : Nat) :
    (granted s a n guest ceiling hold).sweep = s.sweep := by
  rw [← grant_eq_granted, grant_eq_openJob]
  obtain ⟨t, refreshed⟩ := refreshIdle_eq (openJob s a n guest ceiling hold) a
  obtain ⟨ns, opened⟩ := openJob_eq s a n guest ceiling hold
  rw [refreshed, setStation_sweep, opened]

theorem refreshIdle_granted (s : State) (a : Addr) (n : AccountNo) (guest : Bool) (ceiling : Option Nat) (hold : Nat) :
    refreshIdle (granted s a n guest ceiling hold) a = granted s a n guest ceiling hold := by
  have twice (t : State) : refreshIdle (refreshIdle t a) a = refreshIdle t a := by
    simp only [refreshIdle_eq_idled, setStation_stations, setStation_timers, Table.get_set_self, idled_idled]
    rw [setStation_setStation]
  rw [← grant_eq_granted, grant_eq_openJob, twice]

/-- Settles O15: the card is mapped, every local check passes, and the grant is answered. -/
theorem cardGrantedLocally : Obligations.CardGrantedLocally := by
  intro s a sent toggle n b w e taking idle least most law bucket held same checked room record entry funds
  have lookup : lookupCard (heard s a sent) n = some ⟨e.account, e.ceiling, e.gated⟩ :=
    lookupCard_eq_some (s := heard s a sent) law bucket held same
  have paid : fundsShort (heard s a sent) e.account = false :=
    Bool.eq_false_iff.2 (mt (fundsShort_iff (s := heard s a sent)).1 funds)
  have free : journalHasRoom (heard s a sent) = true := journalHasRoom_iff.2 room
  have verdict : localChecks (heard s a sent) (some ⟨e.account, e.ceiling, e.gated⟩) = .grant e.account e.ceiling
      (holdGiven s (s.accounts.get e.account) (e.ceiling.getD (s.plans.get (s.accounts.get e.account).plan).h)) := by
    rw [localChecks_some, show recordCheck (heard s a sent) ((heard s a sent).accounts.get e.account) = none from checked]
    simp only [free, paid, entry, show ((heard s a sent).accounts.get e.account).rights.gated = false from record]
    rfl
  have result := takeCard_of_idle (s := heard s a sent) idle n
  simp only [authorizeCard, lookup, verdict, grant_eq_granted] at result
  refine (exec_card taking least most result ((granted_sweep ..).trans taking.1.2.2.2)).trans ?_
  simp only [resultOf, refreshIdle_granted]

/-! ### Going online (R25, R28 to R33) -/

theorem allChannels_sorted : allChannels.Pairwise (· < ·) := by decide

theorem freeChannel_eq_some {s : State} {c : ChannelNo} (free : (s.channels.get c).busy = none)
    (lowest : ∀ d, d < c → (s.channels.get d).busy ≠ none) : freeChannel s = some c :=
  find?_eq_some_of_lowest allChannels_sorted (mem_allChannels c) (by simp [free])
    (fun d hd => by simpa using Option.isSome_iff_ne_none.2 (lowest d hd))

theorem freeChannel_eq_none {s : State} (busy : ∀ d, (s.channels.get d).busy ≠ none) : freeChannel s = none := by
  rw [freeChannel, List.find?_eq_none]
  intro d _
  simpa using busy d

/-- A station seated in AUTHORIZING with its card and its timer (R29, R33). -/
def waiting (s : State) (a : Addr) (card : AuthCard) : State :=
  seat s a { s.stations.get a with
    state := .authorizing, authCard := some card, timer := some ⟨.authorization, s.timers.authorization⟩ }

theorem goOnline_eq (s : State) (a : Addr) (card : AuthCard) : goOnline s a card =
    match freeChannel s with
    | some c => channelled (waiting s a card) c a card.card card.lookup
    | none => { waiting s a card with waitQueue := s.waitQueue ++ [a] } := by
  have seated : startTimer (setStation (enter s a .authorizing) a
      { (enter s a .authorizing).stations.get a with authCard := some card }) a .authorization = waiting s a card := by
    simp only [startTimer, enter_eq_seat, setStation_stations, seat_station, Table.get_set_self]
    rw [setStation_setStation]
    exact setStation_seat rfl
  unfold goOnline
  dsimp only
  rw [seated, show freeChannel (waiting s a card) = freeChannel s from rfl]
  cases freeChannel s with
  | some c =>
    simp only [takeChannel, requestedHold_eq]
    rfl
  | none => rfl

theorem refreshIdle_of_not_active {s : State} {a : Addr} (h : (s.stations.get a).state ≠ .active) :
    refreshIdle s a = s := by
  rw [refreshIdle_eq_idled, idled_of_not_active h, setStation_self]

/-- A card that is not mapped, or mapped and gated, goes online where the journal has room (R24, R25). -/
theorem localChecks_online {s : State} {lookup : Option CardLookup} (room : SlotFree s)
    (gated : ∀ l, lookup = some l → recordCheck s (s.accounts.get l.account) = none
      ∧ ((s.accounts.get l.account).rights.gated = true ∨ l.gated = true)) : localChecks s lookup = .online := by
  have free := journalHasRoom_iff.2 room
  cases lookup with
  | none => simp [localChecks, free]
  | some l =>
    obtain ⟨passed, online⟩ := gated l rfl
    rw [localChecks_some, passed]
    simp only [free, Bool.or_eq_true, online]
    rfl

/-- Settles O16: the card is looked up, the checks send it online, and a channel or the queue takes its station. -/
theorem cardGoesOnline : Obligations.CardGoesOnline := by
  intro s a sent toggle n b lookup c taking idle least most law room bucket mapped
  have found : lookupCard (heard s a sent) n = lookup := by
    rcases mapped with ⟨rfl, absent⟩ | ⟨w, e, held, same, rfl, _⟩
    · exact lookupCard_eq_none (s := heard s a sent) bucket absent
    · exact lookupCard_eq_some (s := heard s a sent) law bucket held same
  have verdict : localChecks (heard s a sent) lookup = .online := by
    refine localChecks_online room fun l hl => ?_
    rcases mapped with ⟨rfl, _⟩ | ⟨_, _, _, _, rfl, passed, gated⟩
    · cases hl
    · cases hl
      exact ⟨passed, gated⟩
  have result := takeCard_of_idle (s := heard s a sent) idle n
  simp only [authorizeCard, found, verdict, goOnline_eq] at result
  refine ⟨fun free lowest => ?_, fun busy => ?_⟩
  · rw [freeChannel_eq_some (s := heard s a sent) free lowest] at result
    refine (exec_card taking least most result taking.1.2.2.2).trans ?_
    rw [refreshIdle_of_not_active]
    · rfl
    · simp [resultOf, channelled, waiting]
  · rw [freeChannel_eq_none (s := heard s a sent) busy] at result
    refine (exec_card taking least most result taking.1.2.2.2).trans ?_
    rw [refreshIdle_of_not_active]
    · rfl
    · simp [resultOf, waiting]

/-! ### Turned away (R23, R24, R53) -/

theorem restState_heard {s : State} {a : Addr} {sent : Option Message} (present : (s.presence.get a).state = .present) :
    restState (heard s a sent) a = restState s a := by
  simp only [restState, effectiveEnable, heard_presence, present]
  rfl

theorem takeRest_of_idle {s : State} {a : Addr} (idle : (s.stations.get a).state = .idle) :
    takeRest s a = seat s a { s.stations.get a with state := restState s a, timer := none } := by
  rw [takeRest, idle, ← enter_eq_seat]
  rfl

theorem restState_ne_active (s : State) (a : Addr) : restState s a ≠ .active := by
  intro e
  have rest := atRest_restState s a
  rw [e] at rest
  cases rest

/-- A card that a local check declines at an IDLE station (R23, R24). -/
theorem exec_card_declined {s : State} {a : Addr} {sent : Option Message} {toggle : Bool} {n : Nat} {why : DeclineReason}
    (taking : Taking s a sent toggle) (idle : (s.stations.get a).state = .idle) (least : 1 ≤ n)
    (most : n ≤ 9999999999999999999) {lookup : Option CardLookup} (found : lookupCard (heard s a sent) n = lookup)
    (verdict : localChecks (heard s a sent) lookup = .decline why) :
    exec (.card (a.val + 1) toggle n) s = .next (taken (seat (heard s a sent) a { s.stations.get a with
      state := restState s a, timer := none }) a ⟨toggle, .card, .result, .cardResult (.declined why)⟩) := by
  have result := takeCard_of_idle (s := heard s a sent) idle n
  simp only [authorizeCard, found, verdict, takeRest_of_idle (s := heard s a sent) idle,
    restState_heard (sent := sent) taking.1.2.2.1] at result
  refine (exec_card taking least most result taking.1.2.2.2).trans ?_
  rw [refreshIdle_of_not_active]
  · rfl
  · simpa [resultOf] using restState_ne_active s a

/-- The first local check that fails declines (R24). -/
theorem localChecks_decline {s : State} {l : CardLookup} {why : DeclineReason}
    (h : recordCheck s (s.accounts.get l.account) = some why
      ∨ (recordCheck s (s.accounts.get l.account) = none
        ∧ ((¬ SlotFree s ∧ why = .journalFull)
          ∨ (SlotFree s ∧ (s.accounts.get l.account).rights.gated = false ∧ l.gated = false
            ∧ FundsShort s (s.accounts.get l.account) ∧ why = .funds)))) :
    localChecks s (some l) = .decline why := by
  rw [localChecks_some]
  rcases h with failed | ⟨passed, ⟨full, rfl⟩ | ⟨room, record, entry, short, rfl⟩⟩
  · rw [failed]
  · rw [passed]
    simp [mt journalHasRoom_iff.1 full]
  · rw [passed]
    simp [journalHasRoom_iff.2 room, record, entry, fundsShort_iff.2 short]

/-- Settles O17: STATION_OFF and BUSY by the station's state, else the first local check that fails. -/
theorem cardTurnedAway : Obligations.CardTurnedAway := by
  intro s a sent toggle n b why taking least most law bucket
  have away {r : CardResult} (result : takeCard n (heard s a sent) a = resultOf (heard s a sent) r) :
      exec (.card (a.val + 1) toggle n) s = .next (taken (setStation (heard s a sent) a
        (idled s.timers (s.stations.get a))) a ⟨toggle, .card, .result, .cardResult r⟩) := by
    refine (exec_card taking least most result taking.1.2.2.2).trans ?_
    rw [refreshIdle_eq_idled]
    rfl
  refine ⟨fun disabled => ?_, fun engaged => away ?_, fun idle failed => ?_⟩
  · have result : takeCard n (heard s a sent) a = resultOf (heard s a sent) (.declined .stationOff) := by
      rw [takeCard, show ((heard s a sent).stations.get a).state = .disabled from disabled]
    rw [away result, idled_of_not_active (by simp [disabled])]
    rw [show setStation (heard s a sent) a (s.stations.get a) = heard s a sent from setStation_self (heard s a sent) a]
  · have still : ((heard s a sent).stations.get a).state = (s.stations.get a).state := rfl
    rw [takeCard, still]
    rcases engaged with e | e | e | e | e <;> rw [e]
  · rcases failed with ⟨absent, full, rfl⟩ | ⟨w, e, held, same, failed⟩
    · refine exec_card_declined taking idle least most
        (lookupCard_eq_none (s := heard s a sent) bucket absent) ?_
      simp [localChecks, mt (journalHasRoom_iff (s := heard s a sent)).1 full]
    · exact exec_card_declined taking idle least most (lookupCard_eq_some (s := heard s a sent) law bucket held same)
        (localChecks_decline failed)

end Sys2Proof.Machine

namespace Sys2Proof.Machine

set_option Elab.async false

/-! ## The law of stations and the law of the journal (R27, R28, R30, R43, R92, R117, R119, R120) -/

/-- Settles O54: every move keeps the law of stations, and a step is made of moves. -/
theorem stepKeepsTheStationLaw : Obligations.StepKeepsTheStationLaw :=
  fun _ _ law h => step_keeps (fun _ _ => StationLaw.move) h law

/-- Every open job has its reservation, and the journal has room for the records reserved (R27, R119). -/
structure Reserved (s : State) : Prop where
  count : s.reservations = (claims s).length
  bound : s.journal.length + s.reservations ≤ 256

theorem journalLaw_iff {s : State} : JournalLaw s ↔ StationLaw s ∧ Reserved s := by
  have count : (claims s).length = (openJobs s).length := by rw [claims_eq, List.length_map]
  constructor
  · rintro ⟨stations, reserved, bounded⟩
    exact ⟨stations, reserved.trans count.symm, bounded⟩
  · rintro ⟨stations, reserved, bounded⟩
    exact ⟨stations, reserved.trans count, bounded⟩

/-- Journal, reservations and claims unchanged. -/
theorem Reserved.same {s t : State} (h : Reserved s) (claimed : ∀ a, claimAt t a = claimAt s a)
    (journal : t.journal = s.journal := by rfl) (reservations : t.reservations = s.reservations := by rfl) :
    Reserved t := by
  obtain ⟨count, bound⟩ := h
  exact ⟨by rw [reservations, claims_congr claimed, count], by rwa [journal, reservations]⟩

/-- An extension changes a claim and takes none away (R80). -/
theorem Reserved.extend {s : State} (h : Reserved s) {a : Addr} {j : Job} (hj : claimAt s a = some (claimOf j)) :
    Reserved (extend s a j) := by
  obtain ⟨l, before, after⟩ := claims_perm_changed (t := Machine.extend s a j) (d := { claimOf j with
    hold := j.hold + (offer s j).toNat }) hj rfl rfl
  exact ⟨h.count.trans (before.length_eq.trans after.length_eq), h.bound⟩

theorem reserved_reset : Reserved State.reset :=
  ⟨by rw [claims_of_no_job claimAt_reset]; rfl, by decide⟩

theorem endAuthorization_reservations (s : State) (a : Addr) :
    (endAuthorization s a).reservations = s.reservations := by
  obtain ⟨_, _, _, released⟩ := releaseAuthorization_eq s a
  simp [endAuthorization, released]

theorem endAuthorizations_reservations (s : State) : (endAuthorizations s).reservations = s.reservations := by
  have fold (l : List Addr) (t : State) :
      (l.foldl (fun s a => declineToSlot s a .mode) t).reservations = t.reservations := by
    induction l generalizing t with
    | nil => rfl
    | cons a l ih =>
      obtain ⟨w, e⟩ := placeCardResult_eq (endAuthorization t a) a (.declined .mode)
      refine (ih _).trans ?_
      change (placeCardResult (endAuthorization t a) a _).reservations = _
      rw [e]
      exact endAuthorization_reservations t a
  exact fold _ _

theorem goOnline_reservations (s : State) (a : Addr) (card : AuthCard) :
    (goOnline s a card).reservations = s.reservations := by
  rw [goOnline_eq]
  split <;> rfl

/-- A grant takes a reservation where the journal has a free slot (R27, R119). -/
theorem Reserved.openJob {s : State} (h : Reserved s) {a : Addr} (n : AccountNo) (guest : Bool)
    (ceiling : Option Nat) (hold : Nat) (none : claimAt s a = none) (room : journalHasRoom s = true) :
    Reserved (openJob s a n guest ceiling hold) := by
  have free : s.journal.length + s.reservations < 256 := journalHasRoom_iff.1 room
  obtain ⟨ns, e⟩ := openJob_eq s a n guest ceiling hold
  rw [e]
  refine ⟨?_, ?_⟩
  · refine .trans (congrArg (· + 1) h.count) ?_
    let j := openingJob n guest (s.mode == .service) (s.accounts.get n) ceiling hold
    exact (claims_perm_opened (c := claimOf j) none rfl rfl).length_eq
  · change s.journal.length + (s.reservations + 1) ≤ 256
    omega

/-- A close writes its record in its reservation (R92, R120). -/
theorem Reserved.takeOff {s : State} (h : Reserved s) {a : Addr} (reason : EndReason) {j : Job}
    (hj : claimAt s a = some (claimOf j)) : Reserved (takeOff s a reason j) := by
  obtain ⟨count, bound⟩ := h
  obtain ⟨_, _, _, _, reserved⟩ := takeOff_tables s a reason j
  obtain ⟨b, placed⟩ := placed_takeOff s a reason j
  have journal : (Machine.takeOff s a reason j).journal.length = s.journal.length + 1 := by
    simp [placed.journal, writeRecord]
  have claimed := (claims_perm_closed hj (takeOff_stations s a reason j) rfl).length_eq
  rw [List.length_cons] at claimed
  exact ⟨by omega, by omega⟩

/-- A guest approval that no check refuses found a free slot in the journal (R37). -/
theorem journalHasRoom_of_guestRefusal_ok {s : State} {amount : Nat} {plan : PlanNo} {rights : Rights} {n : AccountNo}
    (h : guestRefusal s amount plan rights = .ok n) : journalHasRoom s = true := by
  by_contra full
  rw [Bool.not_eq_true] at full
  simp only [guestRefusal, full, Bool.not_false, if_true] at h
  split at h
  · cases h
  · split at h
    · cases h
    · split at h <;> cases h

theorem Reserved.move {s t : State} (m : Move s t) (stations : StationLaw s) (h : Reserved s) : Reserved t := by
  cases m with
  | links e => exact h.same (claimAt_congr e.stations) e.journal e.reservations
  | reset e => exact reserved_reset.same (claimAt_congr e.stations) e.journal e.reservations
  | station a r _ _ hj =>
    refine h.same fun b => ?_
    rw [claimAt_of_set rfl]
    split
    next e => rw [hj, e]
    next => rfl
  | enter a st _ => exact h.same (SameBooks.of_set (t := enter s a st) rfl rfl).claims
  | record b room =>
    have free : s.journal.length + s.reservations < 256 := journalHasRoom_iff.1 room
    refine ⟨h.count, ?_⟩
    simp only [writeRecord, List.length_append, List.length_singleton]
    omega
  | acknowledged k =>
    obtain ⟨count, bound⟩ := h
    refine ⟨count, ?_⟩
    simp only [List.length_drop]
    omega
  | online a card _ =>
    exact h.same (sameBooks_goOnline s a card).claims (placed_goOnline s a card).journal (goOnline_reservations s a card)
  | ended a _ =>
    exact h.same (sameBooks_endAuthorization s a).claims (placed_endAuthorization s a).journal
      (endAuthorization_reservations s a)
  | endedAll =>
    exact h.same (sameBooks_endAuthorizations s).claims (placed_endAuthorizations s).journal
      (endAuthorizations_reservations s)
  | granted a n ceiling hold ha _ _ room =>
    exact h.openJob n false ceiling hold (claimAt_of_grantable stations ha) room
  | guestGranted a n amount plan rights tag ha ok =>
    have filled : Reserved (setAccount s n (guestAccount amount plan rights tag)) := h.same fun _ => rfl
    have room : journalHasRoom s = true := journalHasRoom_of_guestRefusal_ok ok
    exact filled.openJob n true none _ (claimAt_of_grantable stations (.inr ha)) room
  | settled a reason j hj => exact h.takeOff reason hj
  | extended a j hj => exact h.extend hj
  | floorDown closed =>
    have none (a : Addr) : claimAt s a = none := by
      rcases Bool.eq_false_or_eq_true (hasOpenJob (s.stations.get a).state) with opened | shut
      · simp [claimAt, closed a opened]
      · simp [claimAt, jobAt, job_none_of_not_open (stationLaw_iff.1 stations) shut]
    refine h.same fun a => ?_
    rw [none a]
    simp [claimAt, jobAt, Machine.floorDown, startSweep, Station.reset]
  | _ => exact h.same fun _ => rfl

theorem JournalLaw.move {s t : State} (m : Move s t) (h : JournalLaw s) : JournalLaw t := by
  obtain ⟨stations, reserved⟩ := journalLaw_iff.1 h
  exact journalLaw_iff.2 ⟨stations.move m, reserved.move m stations⟩

/-- Settles O55: every move keeps the journal law, and a step is made of moves. -/
theorem stepKeepsTheJournalLaw : Obligations.StepKeepsTheJournalLaw :=
  fun _ _ law h => step_keeps (fun _ _ => JournalLaw.move) h law

end Sys2Proof.Machine

namespace Sys2Proof.Machine

set_option Elab.async false

/-! ## One second (R33, R53, R152, R174) -/

/-- A station record when one more second has passed. -/
def countedStation (r : Station) : Station :=
  { r with timer := r.timer.map fun k => { k with remaining := k.remaining - 1 } }

/-- A presence record when one more second has passed. -/
def countedPresence (p : PresenceRecord) : PresenceRecord :=
  { p with lossTimer := p.lossTimer.map fun n => n - 1 }

theorem countDown_eq (s : State) (a : Addr) : countDown s a = { s with
    stations := s.stations.set a (countedStation (s.stations.get a))
    presence := s.presence.set a (countedPresence (s.presence.get a)) } := rfl

/-- Addresses counted down one after another: each of them once, and nothing else. -/
theorem countDown_foldl {l : List Addr} (once : l.Nodup) (s : State) :
    ∃ x p, l.foldl countDown s = { s with stations := x, presence := p }
      ∧ ∀ a, x.get a = (if a ∈ l then countedStation (s.stations.get a) else s.stations.get a)
        ∧ p.get a = if a ∈ l then countedPresence (s.presence.get a) else s.presence.get a := by
  induction l generalizing s with
  | nil => exact ⟨s.stations, s.presence, rfl, fun a => by simp⟩
  | cons b l ih =>
    obtain ⟨new, once⟩ := List.nodup_cons.1 once
    obtain ⟨x, p, e, got⟩ := ih once (countDown s b)
    refine ⟨x, p, by rw [List.foldl_cons, e, countDown_eq], fun a => ?_⟩
    obtain ⟨station, presence⟩ := got a
    rw [station, presence, countDown_eq]
    by_cases same : a = b
    · subst same
      simp [new]
    · simp [Table.get_set, same]

/-- The expiries due at an address are those of its running timers with at most one second left. -/
theorem mem_dueExpiries {s : State} {a : Addr} {c : Instr} : c ∈ dueExpiries s a ↔
    (∃ k : RunningTimer, (s.stations.get a).timer = some k ∧ k.remaining ≤ 1 ∧ c = expiryOf k.kind a)
      ∨ ∃ n : Nat, (s.presence.get a).lossTimer = some n ∧ n ≤ 1 ∧ c = .lossTimerExpiry (floorNumber a) := by
  unfold dueExpiries
  rw [List.mem_append]
  refine or_congr ?_ ?_
  · cases (s.stations.get a).timer with
    | none => simp
    | some k => by_cases due : k.remaining ≤ 1 <;> simp [due]
  · cases (s.presence.get a).lossTimer with
    | none => simp
    | some n => by_cases due : n ≤ 1 <;> simp [due]

/-- The expiries queued, in whatever order, are those due at some address (log entry 2). -/
theorem mem_queuedExpiries {s : State} {c : Instr} :
    c ∈ (freeOrder s (allAddrs.filter fun a => !(dueExpiries s a).isEmpty)).flatMap (dueExpiries s)
      ↔ ∃ a, c ∈ dueExpiries s a := by
  simp only [List.mem_flatMap, mem_freeOrder, List.mem_filter]
  constructor
  · rintro ⟨a, _, h⟩
    exact ⟨a, h⟩
  · rintro ⟨a, h⟩
    refine ⟨a, ⟨mem_allAddrs a, ?_⟩, h⟩
    simpa using List.ne_nil_of_mem h

/-- Settles O3: every address is counted down once, and the expiries queued are those due. -/
theorem emptyQueuePassesASecond : Obligations.EmptyQueuePassesASecond := by
  intro s empty
  have second : step s = .next (tick s) := by rw [step, empty]
  refine ⟨fun low => ?_, fun high => ?_⟩
  · rw [second, tick, if_pos low]
  · let due := allAddrs.filter fun a => !(dueExpiries s a).isEmpty
    obtain ⟨k, ordered⟩ := tickOrder_eq s due
    obtain ⟨x, p, counted, got⟩ := countDown_foldl allAddrs_nodup (tickOrder s due)
    rw [ordered] at counted got
    have passed : tick s = { s with
        stations := x, presence := p, freeTick := k, pending := (freeOrder s due).flatMap (dueExpiries s) } := by
      rw [tick, if_neg (by simp [high])]
      exact congrArg (fun t : State => { t with pending := (freeOrder s due).flatMap (dueExpiries s) })
        ((congrArg (allAddrs.foldl countDown) ordered).trans counted)
    refine ⟨tick s, second, fun a => ?_, fun a => ?_, ?_, fun c => ?_⟩ <;> rw [passed]
    · exact (got a).1.trans (if_pos (mem_allAddrs a))
    · exact (got a).2.trans (if_pos (mem_allAddrs a))
    · rw [mem_queuedExpiries]
      exact exists_congr fun a => mem_dueExpiries

end Sys2Proof.Machine

namespace Sys2Proof.Machine

set_option Elab.async false

/-! ## Authorizations ended, in the words of the statements (R22, R32, R155) -/

/-! ### Messages forgotten -/

theorem forgot_poll (a b : Addr) (m : Message) (ms : List Message) :
    forgot (.poll b (some m)) a ms = if b = a ∧ m ∈ ms then .poll a none else .poll b (some m) := rfl

/-- What does not await the reply that confirms a message is kept. -/
theorem forgot_of_ne {w : Awaiting} {a : Addr} {ms : List Message} (h : ∀ m ∈ ms, w ≠ .poll a (some m)) :
    forgot w a ms = w := by
  unfold forgot
  split
  next b m =>
    rw [if_neg]
    rintro ⟨rfl, hm⟩
    exact h m hm rfl
  next => rfl

theorem forgetSent_eq_forgot (s : State) (a : Addr) (m : Message) :
    forgetSent s a m = { s with awaiting := forgot s.awaiting a [m] } := by
  rcases forgetSent_cases s a m with ⟨h, e⟩ | ⟨h, e⟩ <;> rw [e]
  · rw [h, forgot_poll, if_pos (by simp)]
  · rw [forgot_of_ne (by simpa using h)]

/-- A message forgotten after others. -/
theorem forgot_forgot (w : Awaiting) (a : Addr) (m : Message) (ms : List Message) :
    forgot (forgot w a [m]) a ms = forgot w a (m :: ms) := by
  match w with
  | .poll b (some k) =>
    simp only [forgot_poll, List.mem_cons, List.not_mem_nil, or_false]
    by_cases same : b = a ∧ k = m
    · rw [if_pos same, if_pos ⟨same.1, .inl same.2⟩]
      rfl
    · rw [if_neg same, forgot_poll]
      refine if_congr ?_ rfl rfl
      grind
  | .poll _ none | .none | .sweepOne _ | .sweepTwo _ _ | .probe _ => rfl

theorem placeCardResult_eq_slotted (s : State) (a : Addr) (r : CardResult) :
    placeCardResult s a r = slotted s a r := by
  rw [placeCardResult, forgetSent_eq_forgot]
  rfl

theorem placeJobClosed_eq_closedSlot (s : State) (a : Addr) (j : JobClosed) :
    placeJobClosed s a j = closedSlot s a j := by
  simp only [placeJobClosed, forgetSent_eq_forgot, forgot_forgot]
  rfl

theorem withdrawResume_eq_forgot (s : State) (a : Addr) : withdrawResume s a = { s with
    awaiting := forgot s.awaiting a [.resume]
    presence := s.presence.set a { s.presence.get a with resume := false } } := by
  rw [withdrawResume, forgetSent_eq_forgot]
  rfl

theorem placeResume_eq_forgot (s : State) (a : Addr) : placeResume s a = { s with
    awaiting := forgot s.awaiting a [.resume]
    presence := s.presence.set a { s.presence.get a with resume := true } } := by
  rw [placeResume, forgetSent_eq_forgot]
  rfl

/-! ### The end of an authorization -/

/-- The rest state reads admin enable, mode and presence (R44). -/
theorem restState_congr {s t : State} {a : Addr} (state : (t.presence.get a).state = (s.presence.get a).state)
    (enable : t.adminEnable = s.adminEnable := by rfl) (mode : t.mode = s.mode := by rfl) :
    restState t a = restState s a := by
  rw [restState, restState, effectiveEnable, effectiveEnable, state, enable, mode]

theorem endAuthorization_eq_unauthorized (s : State) (a : Addr) : endAuthorization s a = unauthorized s a := by
  have rest : restState (setStation (releaseAuthorization s a) a
      { (releaseAuthorization s a).stations.get a with authCard := none }) a = restState s a := by
    obtain ⟨_, _, _, e⟩ := releaseAuthorization_eq s a
    exact restState_congr (by simp [e]) (by simp [e]) (by simp [e])
  rw [endAuthorization, rest, enter_eq_seat, seat_setStation]
  simp [unauthorized]

theorem declineToSlot_eq_slotted (s : State) (a : Addr) (why : DeclineReason) :
    declineToSlot s a why = slotted (unauthorized s a) a (.declined why) := by
  rw [declineToSlot, placeCardResult_eq_slotted, endAuthorization_eq_unauthorized]

theorem unauthorized_station (s : State) (a : Addr) : (unauthorized s a).stations.get a =
    { s.stations.get a with state := restState s a, authCard := none, timer := none } := seat_station ..

theorem unauthorized_sweep (s : State) (a : Addr) : (unauthorized s a).sweep = s.sweep := by
  obtain ⟨_, _, _, e⟩ := releaseAuthorization_eq s a
  simp [unauthorized, seat, e]

/-! ### CANCEL (R34) -/

/-- Settles O18: a CANCEL in AUTHORIZING ends the authorization, in any other state it is ignored. -/
theorem cancelEndsAnAuthorization : Obligations.CancelEndsAnAuthorization := by
  intro s a sent toggle taking
  have event {r : EventResult} (result : takeCancel (heard s a sent) a = r) (idle : r.state.sweep = .idle) :
      exec (.cancel (a.val + 1) toggle) s = .next (taken (refreshIdle r.state a) a
        ⟨toggle, .cancel, r.outcome, r.attached⟩) := by
    rw [exec, execCancel, whenRunning_eq _ _ taking.1.1, stationReply_of_taking taking .cancel result idle]
  refine ⟨fun authorizing => ?_, fun other => ?_⟩
  · have result : takeCancel (heard s a sent) a
        = resultOf (unauthorized (heard s a sent) a) (.declined .cancelled) := by
      rw [takeCancel, if_pos (show ((heard s a sent).stations.get a).state = .authorizing from authorizing),
        endAuthorization_eq_unauthorized]
    refine (event result ((unauthorized_sweep ..).trans taking.1.2.2.2)).trans ?_
    rw [refreshIdle_of_not_active]
    · rfl
    · simpa [resultOf, unauthorized_station] using restState_ne_active (heard s a sent) a
  · have result : takeCancel (heard s a sent) a = plainAnswer (heard s a sent) .ignored :=
      if_neg (show ¬ ((heard s a sent).stations.get a).state = .authorizing from other)
    refine (event result taking.1.2.2.2).trans ?_
    rw [refreshIdle_eq_idled]
    rfl

/-! ### A channel given up (R28, R30, R31, R32) -/

theorem holdsChannel_iff {s : State} {a : Addr} : HoldsChannel s a ↔ channelOf s a ≠ none := by
  constructor
  · rintro ⟨c, held⟩ none
    exact channelStation_ne_of_channelOf none c held
  · intro some
    obtain ⟨c, held⟩ := Option.ne_none_iff_exists'.1 some
    exact ⟨c, channelStation_of_channelOf held⟩

/-- Under the law of stations the channel of a station is the one found. -/
theorem channelOf_eq_some {s : State} (law : StationLaw s) {a : Addr} {c : ChannelNo} (held : channelStation s c = some a) :
    channelOf s a = some c := by
  obtain ⟨d, found⟩ := Option.ne_none_iff_exists'.1 (holdsChannel_iff.1 ⟨c, held⟩)
  have same : channelStation s d = some a := channelStation_of_channelOf found
  rw [found, law.oneEach d c (by simp [same]) (same.trans held.symm)]

theorem takeChannel_eq_channelled (s : State) (c : ChannelNo) (a : Addr) (card : AuthCard) :
    takeChannel s c a card = channelled s c a card.card card.lookup := by
  simp only [takeChannel, requestedHold_eq]
  rfl

/-- The channel of a station given up with nobody waiting becomes FREE (R32). -/
theorem releaseAuthorization_of_empty {s : State} {a : Addr} {c : ChannelNo} (held : channelOf s a = some c)
    (empty : s.waitQueue = []) :
    releaseAuthorization s a = setChannel s c { s.channels.get c with busy := none } := by
  simp only [releaseAuthorization, held, releaseChannel]
  exact headTakes_of_empty empty

/-- The channel of a station given up goes to the head of the queue (R30, R32). -/
theorem releaseAuthorization_of_waiting {s : State} {a b : Addr} {c : ChannelNo} {q : List Addr} {card : AuthCard}
    (held : channelOf s a = some c) (queue : s.waitQueue = b :: q) (carried : (s.stations.get b).authCard = some card) :
    releaseAuthorization s a = { channelled s c b card.card card.lookup with waitQueue := q } := by
  simp only [releaseAuthorization, held, releaseChannel, headTakes, setChannel_waitQueue, queue, setChannel_stations,
    carried, takeChannel_eq_channelled]
  simp only [channelled, setChannel, Table.get_set_self, Table.set_set]
  rfl

/-- A station without a channel leaves the queue (R32). -/
theorem releaseAuthorization_of_none {s : State} {a : Addr} (none : channelOf s a = none) :
    releaseAuthorization s a = { s with waitQueue := s.waitQueue.filter fun b => b != a } := by
  simp only [releaseAuthorization, none]

/-- Settles O19: the law of stations says which of channel and queue place the station holds. -/
theorem freedChannelGoesToTheHead : Obligations.FreedChannelGoesToTheHead := by
  intro s a c law
  refine ⟨fun held => ⟨releaseAuthorization_of_empty (channelOf_eq_some law held), fun b q card =>
    releaseAuthorization_of_waiting (channelOf_eq_some law held)⟩, fun waits => ?_, fun other => ?_⟩
  · have none : channelOf s a = none := by
      by_contra some
      exact law.notBoth a (holdsChannel_iff.2 some) waits
    rw [releaseAuthorization_of_none none, law.queue.erase_eq_filter]
  · have out : ¬ (HoldsChannel s a ∨ a ∈ s.waitQueue) := mt (law.holder a).2 other
    have none : channelOf s a = none := by
      by_contra some
      exact out (.inl (holdsChannel_iff.2 some))
    rw [releaseAuthorization_of_none none, List.filter_eq_self.2]
    intro b hb
    rw [bne_iff_ne]
    rintro rfl
    exact out (.inr hb)

end Sys2Proof.Machine

namespace Sys2Proof.Machine

set_option Elab.async false

/-! ## The verdicts of the office (R35 to R39) -/

/-! ### Fields of an AUTHORIZATION ANSWER in range and out of range (R35, R166) -/

theorem tagOf_tagSent (t : Tag) : tagOf (tagSent t) = some t := by
  obtain ⟨⟨c, hc⟩, ⟨g, hg⟩⟩ := t
  have channel : (c * 4096 + g) / 4096 = c := by omega
  have generation : (c * 4096 + g) % 4096 = g := by omega
  simp only [tagOf, tagSent, channel, generation]
  rw [dif_pos (by omega)]

theorem tagOf_eq_none {n : Nat} (h : 16384 ≤ n) : tagOf n = none := by
  rw [tagOf, dif_neg (by omega)]

/-- An amount named by the office is one of a hold (R35). -/
theorem holdNamed_iff {hold : Option Nat} :
    (hold.map holdInRange).getD true = true ↔ ∀ k, hold = some k → 1 ≤ k ∧ k ≤ 999999 := by
  cases hold with
  | none => simp
  | some k => simp [holdInRange_iff]

theorem holdNamed_eq_false {hold : Option Nat} (h : hold = some 0 ∨ ∃ k, hold = some k ∧ 999999 < k) :
    (hold.map holdInRange).getD true = false := by
  rw [Bool.eq_false_iff]
  intro inside
  have range := holdNamed_iff.1 inside
  rcases h with zero | ⟨k, named, high⟩
  · exact absurd (range 0 zero).1 (by decide)
  · exact absurd (range k named).2 (by omega)

theorem holdInRange_eq_false {n : Nat} (h : n = 0 ∨ 999999 < n) : holdInRange n = false := by
  rw [Bool.eq_false_iff]
  intro inside
  have := holdInRange_iff.1 inside
  omega

theorem matchTag_eq_none {s : State} {t : Tag}
    (h : (s.channels.get t.channel).busy = none ∨ (s.channels.get t.channel).generation ≠ t.generation) :
    matchTag s t = none := by
  rcases h with free | stale
  · rw [matchTag, free, ite_self]
  · rw [matchTag, if_neg stale]

/-! ### APPROVE ACCOUNT (R36) -/

theorem approveAccount_badRequest {tag account : Nat} {hold : Option Nat} (s : State)
    (h : 16384 ≤ tag ∨ 480 ≤ account ∨ hold = some 0 ∨ ∃ k, hold = some k ∧ 999999 < k) :
    approveAccount tag account hold s = refuse .badRequest s := by
  unfold approveAccount
  rcases h with h | h | h
  · rw [tagOf_eq_none h]
  · rw [regularNo_eq_none.2 h]; cases tagOf tag <;> rfl
  · rw [holdNamed_eq_false h]; cases tagOf tag <;> cases regularNo account <;> rfl

/-- An approval whose fields are in range, by what its tag matches and its checks find (R35, R36). -/
theorem approveAccount_eq {t : Tag} {n : AccountNo} {hold : Option Nat} (s : State) (regular : n.val < 480)
    (named : ∀ k, hold = some k → 1 ≤ k ∧ k ≤ 999999) :
    approveAccount (tagSent t) n.val hold s =
      match matchTag s t with
      | none => refuse .void s
      | some r =>
        match approvalRefusal s n with
        | some why => refuseApproval s r.station why
        | none => applyApproval s r.station n false (recordCeiling r) (grantHold s n (approvalBase s n r hold)) := by
  simp only [approveAccount, tagOf_tagSent, regularNo_val regular, holdNamed_iff.2 named]
  rfl

theorem applyApproval_eq (s : State) (a : Addr) (n : AccountNo) (guest : Bool) (ceiling : Option Nat) (hold : Nat) :
    applyApproval s a n guest ceiling hold =
      ⟨.ok, .verdict none, slotted (granted s a n guest ceiling hold) a (.accepted hold)⟩ := by
  rw [applyApproval, grant_eq_granted, placeCardResult_eq_slotted]
  rfl

theorem refuseApproval_eq (s : State) (a : Addr) (why : DeclineReason) :
    refuseApproval s a why = ⟨.ok, .verdict (some why), slotted (unauthorized s a) a (.declined why)⟩ := by
  rw [refuseApproval, declineToSlot_eq_slotted]
  rfl

/-- Settles O20: the checks pass, and the grant is applied with its result in the slot. -/
theorem approveAccountGrants : Obligations.ApproveAccountGrants := by
  intro s req t r n hold low busy generation regular named checked room funds
  let o : State := { s with window := none }
  have matched : matchTag o t = some r := matchTag_eq_some.2 ⟨busy, generation⟩
  have passed : approvalRefusal o n = none := by
    refine approvalRefusal_eq_none.2 ⟨(accountDecline_eq o n).trans checked, journalHasRoom_iff.2 room, ?_⟩
    exact Bool.eq_false_iff.2 (mt (fundsShort_iff (s := o)).1 funds)
  refine request_answered low ((approveAccount_eq o regular named).trans ?_)
  simp only [matched, passed]
  exact applyApproval_eq ..

/-! ### APPROVE GUEST (R37) -/

theorem approveGuest_badRequest {tag amount plan : Nat} {rights : Byte} (s : State)
    (h : 16384 ≤ tag ∨ amount = 0 ∨ 999999 < amount ∨ 8 ≤ plan ∨ 64 ≤ rights.toNat) :
    approveGuest tag amount plan rights s = refuse .badRequest s := by
  unfold approveGuest
  rcases h with h | h | h | h | h
  · rw [tagOf_eq_none h]
  · rw [holdInRange_eq_false (.inl h)]; split <;> rfl
  · rw [holdInRange_eq_false (.inr h)]; split <;> rfl
  · rw [planNo_eq_none h]; split <;> trivial
  · rw [rightsOf_eq_none h]; split <;> trivial

/-- A guest approval whose fields are in range, by what its tag matches and its checks find (R35, R37). -/
theorem approveGuest_eq {t : Tag} {amount : Nat} {p : PlanNo} {rights : Byte} (s : State) (least : 1 ≤ amount)
    (most : amount ≤ 999999) (small : rights.toNat < 64) :
    approveGuest (tagSent t) amount p.val rights s =
      match matchTag s t with
      | none => refuse .void s
      | some r =>
        match guestRefusal s amount p (rightsIn rights) with
        | .error why => refuseApproval s r.station why
        | .ok n =>
          applyApproval (setAccount s n (guestAccount amount p (rightsIn rights) t)) r.station n true none
            (guestHold s amount p) := by
  simp only [approveGuest, tagOf_tagSent, planNo_val, rightsOf_eq_some small, holdInRange_iff.2 ⟨least, most⟩]
  rfl

theorem guestSlots_sorted : guestSlots.Pairwise (· < ·) := by decide

theorem mem_guestSlots {n : AccountNo} : n ∈ guestSlots ↔ 480 ≤ n.val := by
  revert n
  decide +kernel

/-- The least member of a sorted list that meets a test is the one found. -/
theorem find?_eq_some_of_least {n : Nat} {l : List (Fin n)} {p : Fin n → Bool} {x : Fin n}
    (sorted : l.Pairwise (· < ·)) (mem : x ∈ l) (meets : p x = true) (least : ∀ y ∈ l, y < x → p y = false) :
    l.find? p = some x := by
  induction l with
  | nil => cases mem
  | cons y l ih =>
    obtain ⟨first, rest⟩ := List.pairwise_cons.1 sorted
    rcases List.mem_cons.1 mem with rfl | mem
    · exact List.find?_cons_of_pos meets
    · have below : ¬ p y = true := by rw [least y List.mem_cons_self (first x mem)]; exact nofun
      rw [List.find?_cons_of_neg below]
      exact ih rest mem fun z hz => least z (List.mem_cons_of_mem y hz)

/-- The lowest FREE slot is found (R37). -/
theorem freeGuestSlot_eq_some {s : State} {n : AccountNo} (slot : 480 ≤ n.val) (free : (s.accounts.get n).status = .free)
    (lowest : ∀ k : AccountNo, 480 ≤ k.val → k < n → (s.accounts.get k).status ≠ .free) : freeGuestSlot s = some n :=
  find?_eq_some_of_least guestSlots_sorted (mem_guestSlots.2 slot) (by simp [free])
    fun k hk below => by simpa using lowest k (mem_guestSlots.1 hk) below

/-- The checks of a guest approval in the words of the statements (R37, R141). -/
theorem guestRefusal_eq (s : State) (amount : Nat) (p : PlanNo) (rights : Rights) :
    guestRefusal s amount p rights =
      if rights.mono = false then .error .noRights
      else if (s.mode = .afterHours ∧ rights.afterHours = false) ∨ (s.mode = .service ∧ rights.service = false)
        ∨ s.mode = .closed then .error .mode
      else if (s.plans.get p).loaded = false then .error .noPlan
      else if 256 ≤ s.journal.length + s.reservations then .error .journalFull
      else if s.mode ≠ .service ∧ amount < max (s.plans.get p).m 1 then .error .funds
      else (freeGuestSlot s).elim (.error .noGuestSlot) .ok := by
  have full : journalHasRoom s = false ↔ 256 ≤ s.journal.length + s.reservations := by
    rw [← Bool.not_eq_true, journalHasRoom_iff, SlotFree, Nat.not_lt]
  have short : (s.mode != .service && decide (amount < leastFunds (s.plans.get p))) = true ↔
      s.mode ≠ .service ∧ amount < max (s.plans.get p).m 1 := by simp [leastFunds]
  simp only [guestRefusal, Bool.not_eq_true', hasModeRight_eq_false, full, short]
  cases freeGuestSlot s <;> rfl

theorem freeGuestSlot_eq_none {s : State} :
    freeGuestSlot s = none ↔ guestSlots.all (fun k => (s.accounts.get k).status != .free) = true := by
  simp [freeGuestSlot]

/-- The first check of APPROVE GUEST that fails refuses (R37). -/
theorem guestRefusal_eq_error {s : State} {amount : Nat} {p : PlanNo} {rights : Rights} {why : DeclineReason}
    (h : (if rights.mono = false then some .noRights
      else if (s.mode = .afterHours ∧ rights.afterHours = false) ∨ (s.mode = .service ∧ rights.service = false)
        ∨ s.mode = .closed then some .mode
      else if (s.plans.get p).loaded = false then some .noPlan
      else if 256 ≤ s.journal.length + s.reservations then some .journalFull
      else if s.mode ≠ .service ∧ amount < max (s.plans.get p).m 1 then some .funds
      else if guestSlots.all (fun k => (s.accounts.get k).status != .free) then some .noGuestSlot
      else none) = some why) : guestRefusal s amount p rights = .error why := by
  rw [guestRefusal_eq]
  split_ifs at h ⊢
  iterate 5 next => cases h; rfl
  next occupied => cases h; rw [freeGuestSlot_eq_none.2 occupied, Option.elim_none]

/-- Settles O21: the checks pass, the lowest FREE slot is filled, and the grant is applied with its result. -/
theorem approveGuestGrants : Obligations.ApproveGuestGrants := by
  intro s req amount t r p rights n low busy generation least most small mono shut hours service loaded room funds slot
    free lowest
  let o : State := { s with window := none }
  have matched : matchTag o t = some r := matchTag_eq_some.2 ⟨busy, generation⟩
  have mode : ¬ ((o.mode = .afterHours ∧ (rightsIn rights).afterHours = false)
      ∨ (o.mode = .service ∧ (rightsIn rights).service = false) ∨ o.mode = .closed) := by
    rintro (⟨e, no⟩ | ⟨e, no⟩ | e)
    · simp [hours e] at no
    · simp [service e] at no
    · exact shut e
  have passed : guestRefusal o amount p (rightsIn rights) = .ok n := by
    rw [guestRefusal_eq, if_neg (by simp [mono]), if_neg mode, if_neg (by simp [o, loaded]),
      if_neg (Nat.not_le_of_lt room), if_neg fun short => absurd (funds short.1) (Nat.not_le_of_lt short.2),
      freeGuestSlot_eq_some (s := o) slot free lowest, Option.elim_some]
  refine request_answered low ((approveGuest_eq o least most small).trans ?_)
  simp only [matched, passed]
  exact applyApproval_eq ..

/-! ### DECLINE, and the verdicts that grant nothing (R22, R33, R38) -/

theorem declineAnswer_badRequest {tag reason : Nat} (s : State) (h : 16384 ≤ tag ∨ 255 < reason) :
    declineAnswer tag reason s = refuse .badRequest s := by
  unfold declineAnswer
  rcases h with h | h
  · rw [tagOf_eq_none h]
  · cases tagOf tag with
    | none => rfl
    | some t => exact if_pos h

theorem declineAnswer_eq {t : Tag} {reason : Nat} (s : State) (byte : reason ≤ 255) :
    declineAnswer (tagSent t) reason s =
      match matchTag s t with
      | none => refuse .void s
      | some r => ⟨.ok, .verdict none, slotted (unauthorized s r.station) r.station (.declined (.office reason))⟩ := by
  simp only [declineAnswer, tagOf_tagSent, if_neg (Nat.not_lt_of_le byte), declineToSlot_eq_slotted]
  rfl

/-- The first check of APPROVE ACCOUNT that fails refuses (R36). -/
theorem approvalRefusal_eq_some {s : State} {n : AccountNo} {why : DeclineReason}
    (h : recordCheck s (s.accounts.get n) = some why
      ∨ (recordCheck s (s.accounts.get n) = none
        ∧ ((¬ SlotFree s ∧ why = .journalFull) ∨ (SlotFree s ∧ FundsShort s (s.accounts.get n) ∧ why = .funds)))) :
    approvalRefusal s n = some why := by
  rw [approvalRefusal, accountDecline_eq]
  rcases h with failed | ⟨passed, ⟨full, rfl⟩ | ⟨room, short, rfl⟩⟩
  · rw [failed]
  · rw [passed]
    simp [mt journalHasRoom_iff.1 full]
  · rw [passed]
    simp [journalHasRoom_iff.2 room, fundsShort_iff.2 short]

/-- A timer that runs in its state expires (R33, R43). -/
theorem expire_of_running {s : State} {a : Addr} {k : TimerKind} {f : State → Addr → State} (low : s.resetLow = false)
    (state : (s.stations.get a).state = timerState k) (runs : (s.stations.get a).timer.map RunningTimer.kind = some k) :
    expire k (a.val + 1) s f = .next (f s a) := by
  obtain ⟨t, running, rfl⟩ := Option.map_eq_some_iff.1 runs
  have now : timerRuns s a t.kind = true := by simp [timerRuns, state, running]
  rw [expire, whenRunning_eq _ _ low, show a.val + 1 = floorNumber a from rfl, atAddr_floorNumber, if_pos now]

/-- Settles O22: each verdict by its fields, its tag and the first check that fails, and the timer's expiry. -/
theorem verdictsThatGrantNothing : Obligations.VerdictsThatGrantNothing := by
  intro s req t r n p hold amount reason tag account plan rights why a low o
  refine ⟨fun busy generation => ?_, fun authorizing runs => ?_, ?_⟩
  · have matched : matchTag o t = some r := matchTag_eq_some.2 ⟨busy, generation⟩
    refine ⟨fun byte => request_answered low ?_, fun regular named failed => request_answered low ?_,
      fun least most small failed => request_answered low ?_⟩
    · refine (declineAnswer_eq o byte).trans ?_
      rw [matched]
    · refine (approveAccount_eq o regular named).trans ?_
      have refusal : approvalRefusal o n = some why := approvalRefusal_eq_some failed
      simp only [matched, refusal]
      exact refuseApproval_eq ..
    · refine (approveGuest_eq o least most small).trans ?_
      have refusal : guestRefusal o amount p (rightsIn rights) = .error why := by
        exact guestRefusal_eq_error failed
      simp only [matched, refusal]
      exact refuseApproval_eq ..
  · have expired := expire_of_running (f := fun s a => declineToSlot s a .timeout) low authorizing runs
    rwa [declineToSlot_eq_slotted] at expired
  · refine ⟨fun out => request_refused low (approveAccount_badRequest _ out),
      fun out => request_refused low (approveGuest_badRequest _ out),
      fun out => request_refused low (declineAnswer_badRequest _ out), fun stale sent => ?_⟩
    have unmatched : matchTag o t = none := matchTag_eq_none stale
    subst sent
    refine ⟨fun regular named => request_refused low ?_, fun least most planned small => request_refused low ?_,
      fun byte => request_refused low ?_⟩
    · refine (approveAccount_eq (n := ⟨account, by omega⟩) o regular named).trans ?_
      rw [unmatched]
    · refine (approveGuest_eq (p := ⟨plan, planned⟩) o least most small).trans ?_
      rw [unmatched]
    · refine (declineAnswer_eq o byte).trans ?_
      rw [unmatched]

end Sys2Proof.Machine

namespace Sys2Proof.Machine

set_option Elab.async false

/-! ## Closes, in the words of the statements (R55 to R58, R75 to R77, R89 to R94) -/

/-! ### The charge (R75, R76, R77) -/

theorem minimumApplies_eq (m : Nat) (j : Job) : minimumApplies m j =
    decide (j.service = false ∧ 1 ≤ classSum j.charged ∧ roundedOf j < m) := by
  rw [Bool.eq_iff_iff]
  simp only [minimumApplies, hadPriced, Bool.and_eq_true, Bool.not_eq_true', decide_eq_true_eq, and_assoc]
  rfl

/-- The charge and the mark of the minimum are those of the statements. -/
theorem due_eq (m : Nat) (j : Job) : due m j = (chargeOf m j, minimumApplies m j) := by
  unfold due chargeOf
  rw [minimumApplies_eq]
  by_cases least : j.service = false ∧ 1 ≤ classSum j.charged ∧ roundedOf j < m
  · simp [least]
  · simp [least]
    rfl

theorem settledRecord_eq (s : State) (j : Job) : settledRecord s j =
    settledAccount (s.accounts.get j.account) (chargeOf (s.plans.get j.plan).m j) j.hold := by
  rw [settledRecord, due_eq]
  rfl

/-! ### The close (R57, R89) -/

theorem lineHigh_of_atRest {st : StationState} (h : atRest st = true) : lineHigh st = false := by
  cases st with
  | offline | disabled | idle => rfl
  | authorizing | active | held | jammed | closing | detached => cases h

/-- A settlement, field by field (R89). -/
theorem settle_eq (s : State) (a : Addr) (why : EndReason) (j : Job) : settle s a why j = { s with
    accounts := s.accounts.set j.account (releasedAccount s j)
    plans := s.plans.set j.plan (uncapturedPlan (s.plans.get j.plan))
    journal := s.journal ++ [⟨s.nextSeq, .job (jobRecord a why (s.plans.get j.plan).m j
      (settledAccount (s.accounts.get j.account) (chargeOf (s.plans.get j.plan).m j) j.hold))⟩]
    nextSeq := nextSequence s.nextSeq
    reservations := s.reservations - 1 } := rfl

/-- A job taken off record and station, field by field (R57, R89). -/
theorem takeOff_eq (s : State) (a : Addr) (why : EndReason) (j : Job) : takeOff s a why j = { settle s a why j with
    stations := s.stations.set a { s.stations.get a with
      state := restState s a, job := none, remembered := none, pendingEnd := none, wanted := none, timer := none }
    presence := s.presence.set a { s.presence.get a with resume := false, line := false }
    awaiting := forgot s.awaiting a [.resume] } := by
  rw [← takeOff_stations s a why j]
  have rest : restState (setStation (withdrawResume (settle s a why j) a) a
      { (withdrawResume (settle s a why j) a).stations.get a with
        job := none, pendingEnd := none, remembered := none, wanted := none }) a = restState s a := by
    rw [withdrawResume_eq_forgot]
    exact restState_congr (by simp [settle_eq])
  rw [takeOff, clearStation, rest]
  simp only [enter, lineHigh_of_atRest (atRest_restState s a), withdrawResume_eq_forgot, setStation, setPresence,
    Table.get_set_self, Table.set_set]
  rfl

/-- The close of a job is the statements' (R57, R89 to R94, R114, R133, R152). -/
theorem closeQuiet_eq_closed (s : State) (a : Addr) (why : EndReason) (j : Job) :
    closeQuiet s a why j = closed s a why j := by
  have off : closeQuiet s a why j = noticeLeavingJam (closeAtLost (takeOff (meterWriteOff s a (unconfirmed j)) a why
      (writtenOffJob j)) a) a (s.stations.get a).state := rfl
  rw [off, takeOff_eq, settle_eq]
  unfold closed noticeLeavingJam closeAtLost
  simp only [due_eq, settledRecord_eq, meterWriteOff, setMeters, Table.get_set_self]
  by_cases lost : (s.presence.get a).state = .lost <;> by_cases jammed : (s.stations.get a).state = .jammed <;>
    simp only [lost, jammed, if_true, if_false, startLossTimer, setPresence, placeNotice,
      Table.get_set_self, Table.set_set] <;> rfl

theorem closedFigures_eq_closedNote (s : State) (why : EndReason) (j : Job) :
    closedFigures s why j = closedNote s why j := by
  rw [closedNote, due_eq, settledRecord_eq]
  rfl

theorem closed_account (s : State) (a : Addr) (why : EndReason) (j : Job) : (closed s a why j).accounts.get j.account =
    if j.guest then Account.reset .free else settledRecord s j := Table.get_set_self ..

/-- A close with its retries, and its JOB CLOSED (R57, R89, R93). -/
theorem closeJob_eq_settled {s : State} {a : Addr} {j : Job} (hj : jobAt s a = some j) (why : EndReason) :
    closeJob s a why true = (settled s a why j, some (closedNote s why j)) := by
  have job : (s.stations.get a).job = some j := hj
  simp only [closeJob, job, closeQuiet_eq_closed, closedFigures_eq_closedNote, retryIfRisen, closed_account, settled,
    Bool.true_and]
  cases guest : j.guest <;> simp

theorem closeJob_eq_none {s : State} {a : Addr} (hj : jobAt s a = none) (why : EndReason) (retry : Bool) :
    closeJob s a why retry = (s, none) := by
  have job : (s.stations.get a).job = none := hj
  simp only [closeJob, job]

/-- A close without retries (R95). -/
theorem closeJob_eq_closed {s : State} {a : Addr} {j : Job} (hj : jobAt s a = some j) (why : EndReason) :
    (closeJob s a why false).1 = closed s a why j := by
  have job : (s.stations.get a).job = some j := hj
  simp only [closeJob, job, closeQuiet_eq_closed, Bool.false_and, Bool.false_eq_true, if_false]

theorem closeToSlot_eq_closedAway {s : State} {a : Addr} {j : Job} (hj : jobAt s a = some j) (why : EndReason) :
    closeToSlot s a why = closedAway s a why j := by
  rw [closeToSlot, closeJob_eq_settled hj]
  exact placeJobClosed_eq_closedSlot ..

/-! ### Entry to CLOSING (R55) -/

/-- A station in CLOSING with its pending end reason, before its drain timer starts (R55). -/
def shutting (s : State) (a : Addr) (why : EndReason) : State :=
  seat s a { s.stations.get a with state := .closing, pendingEnd := some why, wanted := none, timer := none }

/-- A close does not read what the entry to CLOSING writes, but for JAMMED, which is left with a notice (R55, R114). -/
theorem closed_shutting {s : State} {a : Addr} (other : (s.stations.get a).state ≠ .jammed) (why : EndReason) (j : Job) :
    closed (shutting s a why) a why j = closed s a why j := by
  have rest : restState (shutting s a why) a = restState s a := restState_congr (by simp [shutting, seat])
  unfold closed
  rw [rest]
  simp only [shutting, seat, Table.get_set_self, Table.set_set, if_neg other, reduceCtorEq, if_false]
  rfl

theorem settled_shutting {s : State} {a : Addr} (other : (s.stations.get a).state ≠ .jammed) (why : EndReason) (j : Job) :
    settled (shutting s a why) a why j = settled s a why j := by
  rw [settled, closed_shutting other]
  rfl

/-- Entry to CLOSING from ACTIVE or HELD: at once with nothing in flight, else the drain (R55). -/
theorem beginClosing_eq {s : State} {a : Addr} {j : Job} (hj : jobAt s a = some j)
    (other : (s.stations.get a).state ≠ .jammed) (why : EndReason) : beginClosing s a why =
      if j.inFlight = [] then (settled s a why j, some (closedNote s why j)) else (draining s a why, none) := by
  have job : (s.stations.get a).job = some j := hj
  have shut : setStation (enter s a .closing) a
      { (enter s a .closing).stations.get a with pendingEnd := some why, wanted := none } = shutting s a why := by
    rw [enter_eq_seat, seat_station]
    exact setStation_seat rfl
  have kept : jobAt (shutting s a why) a = some j := by simp [jobAt, shutting, job]
  simp only [beginClosing, job, shut, List.isEmpty_iff]
  split
  · rw [closeJob_eq_settled kept, settled_shutting other]
    rfl
  · refine congrArg (·, none) ?_
    simp only [startTimer, shutting, seat_station, draining]
    exact setStation_seat rfl

theorem beginClosingToSlot_eq_closingAway {s : State} {a : Addr} {j : Job} (hj : jobAt s a = some j)
    (other : (s.stations.get a).state ≠ .jammed) (why : EndReason) :
    beginClosingToSlot s a why = closingAway s a why j := by
  rw [beginClosingToSlot, beginClosing_eq hj other, closingAway]
  split
  · exact placeJobClosed_eq_closedSlot ..
  · rfl

/-! ### Forced closes (R58, R143) -/

/-- A forced close by the state of a station with a job is the statements' (R58). -/
theorem forceClose_eq_forcedAway {s : State} {a : Addr} {j : Job} (hj : jobAt s a = some j) :
    forceClose s a = forcedAway s a j := by
  unfold forceClose forcedAway
  cases state : (s.stations.get a).state with
  | active => simpa using beginClosingToSlot_eq_closingAway hj (by simp [state]) .forced
  | held => simpa using beginClosingToSlot_eq_closingAway hj (by simp [state]) .forced
  | jammed => simpa using closeToSlot_eq_closedAway hj .forced
  | detached => simpa using closeToSlot_eq_closedAway hj .forced
  | closing | offline | disabled | idle | authorizing => simp

theorem floorAddr_val (a : Addr) : floorAddr (a.val + 1) = some a := floorAddr_floorNumber a

/-- END JOB at a station with an open job is a forced close; in CLOSING nothing changes (R58). -/
theorem endJob_of_open {s : State} {a : Addr} (opened : hasOpenJob (s.stations.get a).state = true) :
    endJob (a.val + 1) s = accept .none (forceClose s a) := by
  rw [endJob, floorAddr_val]
  cases state : (s.stations.get a).state with
  | active | held | jammed | detached => simp only [state]
  | closing => simp only [forceClose, state]
  | offline | disabled | idle | authorizing => rw [state] at opened; cases opened

/-- Settles O34: each state has its own end, and the forced close of a job is `forcedAway`. -/
theorem endJobByState : Obligations.EndJobByState := by
  intro s req addr a j low o
  have by_state {t : State} {status : Status} (result : endJob (a.val + 1) o = ⟨status, .none, t⟩) :
      exec (.endJob req (a.val + 1)) s = .next (answered t .endJob req status .none) := request_answered low result
  have still : (o.stations.get a).state = (s.stations.get a).state := rfl
  refine ⟨fun out => request_refused low ?_, fun rest => by_state ?_, fun authorizing => by_state ?_,
    fun opened hj => by_state ?_⟩
  · rw [endJob, floorAddr_eq_none.2 out]
  · rw [endJob, floorAddr_val]
    rcases rest with e | e | e <;> simp only [still, e] <;> rfl
  · rw [endJob, floorAddr_val]
    simp only [still, authorizing, declineToSlot_eq_slotted]
    rfl
  · rw [endJob_of_open (s := o) opened, forceClose_eq_forcedAway (s := o) hj]
    rfl

/-! ### SET STATION ENABLE (R145) -/

theorem enableReply_eq (s : State) (a : Addr) : enableReply s a = accept (.stationEnable a (s.adminEnable.get a)
    (decide (s.adminEnable.get a = true ∧ s.mode ≠ .closed ∧ (s.presence.get a).state = .present))
    (s.stations.get a).state) s := by
  rw [enableReply, effectiveEnable_eq]

/-- A clear admin enable forces an open job to its close; in CLOSING nothing changes (R145). -/
theorem disableStation_of_open {s : State} {a : Addr} (opened : hasOpenJob (s.stations.get a).state = true) :
    disableStation s a = forceClose s a := by
  unfold disableStation
  cases state : (s.stations.get a).state with
  | active | held | jammed | detached => rfl
  | closing => simp only [forceClose, state]
  | offline | disabled | idle | authorizing => rw [state] at opened; cases opened

theorem takeRest_of_atRest {s : State} {a : Addr} (rest : atRest (s.stations.get a).state = true) :
    takeRest s a = seat s a { s.stations.get a with state := restState s a, timer := none } := by
  rw [takeRest, if_pos rest, enter_eq_seat]

/-- A set admin enable lets a DISABLED station take its rest state (R145). -/
theorem enableStation_eq (s : State) (a : Addr) : enableStation s a = if (s.stations.get a).state = .disabled then
    seat s a { s.stations.get a with state := restState s a, timer := none } else s := by
  unfold enableStation
  split
  next disabled => exact takeRest_of_atRest (by rw [disabled]; rfl)
  next => rfl

/-- SET STATION ENABLE with its operands in range (R145). -/
theorem setStationEnable_eq (s : State) (a : Addr) (b : Bool) : setStationEnable (a.val + 1) b.toNat s =
    if s.adminEnable.get a = b then enableReply s a
    else enableReply (if b then enableStation { s with adminEnable := s.adminEnable.set a b } a
      else disableStation { s with adminEnable := s.adminEnable.set a b } a) a := by
  rw [setStationEnable, floorAddr_val, flagOf_eq_some b.toNat_le]
  cases b <;> rfl

/-- Settles O41: the flag as held has no effect, else the station acts by its state. -/
theorem setStationEnableActsByState : Obligations.SetStationEnableActsByState := by
  intro s req addr value a j low o r reply set
  have answer {b : Bool} {t : State} (result : setStationEnable (a.val + 1) b.toNat o = enableReply t a) :
      exec (.setStationEnable req (a.val + 1) b.toNat) s = reply t := by
    rw [enableReply_eq] at result
    exact request_answered low result
  have same {b : Bool} (held : s.adminEnable.get a = b) :
      exec (.setStationEnable req (a.val + 1) b.toNat) s = reply o :=
    answer ((setStationEnable_eq o a b).trans (if_pos held))
  refine ⟨fun out => request_refused low ?_, same (b := true), same (b := false), fun clear => ?_, fun held => ?_⟩
  · unfold setStationEnable
    rcases out with zero | high | value
    · rw [floorAddr_eq_none.2 (.inl zero)]
    · rw [floorAddr_eq_none.2 (.inr high)]
    · rw [flagOf_eq_none value]; cases floorAddr addr <;> rfl
  · refine answer (b := true) ((setStationEnable_eq o a true).trans ((if_neg (by simp [o, clear])).trans ?_))
    exact congrArg (enableReply · a) (enableStation_eq (set true) a)
  · have cleared {t : State} (acts : disableStation (set false) a = t) :
        exec (.setStationEnable req (a.val + 1) 0) s = reply t :=
      answer (b := false) ((setStationEnable_eq o a false).trans ((if_neg (by simp [o, held])).trans
        (congrArg (enableReply · a) acts)))
    have state : ((set false).stations.get a).state = r.state := rfl
    refine ⟨fun quiet => cleared ?_, fun idle => cleared ?_, fun authorizing => cleared ?_,
      fun opened hj => cleared ?_⟩
    · rcases quiet with e | e | e <;> simp only [disableStation, state, e]
    · simp only [disableStation, state, idle]
      exact takeRest_of_atRest (by rw [state, idle]; rfl)
    · simp only [disableStation, state, authorizing, declineToSlot_eq_slotted]
    · rw [disableStation_of_open (s := set false) opened, forceClose_eq_forcedAway (s := set false) hj]

end Sys2Proof.Machine

namespace Sys2Proof.Machine

set_option Elab.async false

/-! ## Loss and return, in the words of the statements (R40, R59, R60, R86, R151, R152) -/

/-! ### What a reply comes to at the end of a visit -/

/-- With no sweep asked for, the end of a visit awaits nothing (R150). -/
theorem endExchange_of_idle {s : State} (idle : s.sweep = .idle) : endExchange s = { s with awaiting := .none } := by
  have quiet : ¬ s.sweep = .requested := by rw [idle]; exact nofun
  exact if_neg quiet

/-- A valid frame of a polled address is heard, then taken; the frame is told whether the address was LOST (R151). -/
theorem stationReply_of_polled {s : State} {a : Addr} {sent : Option Message} (awaited : s.awaiting = .poll a sent)
    (polled : isPolled (s.presence.get a).state = true) (f : Addr → Bool → State → State) :
    stationReply (a.val + 1) s f = endExchange (f a ((s.presence.get a).state == .lost) (heard s a sent)) := by
  simp only [stationReply, awaited, validReply, polled, if_true]
  exact congrArg endExchange (if_pos rfl)

/-- A frame of another address counts as a miss (R146, R151). -/
theorem stationReply_of_other {s : State} {a : Addr} {sent : Option Message} {n : Nat}
    (awaited : s.awaiting = .poll a sent) (other : n ≠ a.val + 1) (f : Addr → Bool → State → State) :
    stationReply n s f = endExchange (missPoll s a) := by
  simp only [stationReply, awaited]
  exact congrArg endExchange (if_neg other)

/-! ### Seats -/

theorem seat_seat (s : State) (a : Addr) (r x : Station) : seat (seat s a r) a x = seat s a x := by
  simp only [seat, Table.get_set_self, Table.set_set]

/-- A timer started at a seated station (R62). -/
theorem startTimer_seat (s : State) (a : Addr) (r : Station) (k : TimerKind) :
    startTimer (seat s a r) a k = seat s a { r with timer := some ⟨k, settingOf s.timers k⟩ } := by
  rw [startTimer, seat_station]
  exact setStation_seat rfl

theorem setPresence_self (s : State) (a : Addr) : setPresence s a (s.presence.get a) = s := by
  rw [setPresence, Table.set_get]

/-! ### Loss (R40, R59, R151, R152) -/

/-- A station with an open job is DETACHED with its state remembered and the reconnect grace started (R59). -/
theorem detach_eq_seat (s : State) (a : Addr) : detach s a = seat s a { s.stations.get a with
    state := .detached, remembered := some (s.stations.get a).state
    timer := some ⟨.reconnectGrace, s.timers.reconnectGrace⟩ } := by
  unfold detach
  dsimp only
  rw [enter_eq_seat, seat_station, setStation_seat (by rfl), startTimer_seat]
  rfl

/-- The loss timer started with `n` seconds (R152). -/
def graced (s : State) (a : Addr) (n : Nat) : State :=
  { s with presence := s.presence.set a { s.presence.get a with lossTimer := some n } }

theorem startLossTimer_eq_graced (s : State) (a : Addr) : startLossTimer s a = graced s a s.timers.reconnectGrace := rfl

/-- A miss at a PRESENT address with fewer than two misses raises the count (R151). -/
theorem missPoll_of_few {s : State} {a : Addr} (present : (s.presence.get a).state = .present)
    (few : (s.presence.get a).misses ≤ 1) :
    missPoll s a = setPresence s a { s.presence.get a with misses := (s.presence.get a).misses + 1 } := by
  have count : min 3 ((s.presence.get a).misses + 1) = (s.presence.get a).misses + 1 := by omega
  have early : (s.presence.get a).misses + 1 ≠ 3 := by omega
  simp only [missPoll, present, count, if_neg early]

/-- The third miss loses the station (R151, R152). -/
theorem missPoll_of_many {s : State} {a : Addr} (present : (s.presence.get a).state = .present)
    (many : 2 ≤ (s.presence.get a).misses) :
    missPoll s a = loseStation (setPresence s a { s.presence.get a with state := .lost, misses := 3 }) a := by
  have count : min 3 ((s.presence.get a).misses + 1) = 3 := by omega
  simp only [missPoll, present, count, if_true]

/-- A miss at a LOST address leaves the count at 3 (R151). -/
theorem missPoll_of_lost {s : State} {a : Addr} (lost : (s.presence.get a).state = .lost)
    (three : (s.presence.get a).misses = 3) : missPoll s a = s := by
  have count : min 3 ((s.presence.get a).misses + 1) = (s.presence.get a).misses := by omega
  have kept : setPresence s a { s.presence.get a with misses := min 3 ((s.presence.get a).misses + 1) } = s :=
    (congrArg (fun n => setPresence s a { s.presence.get a with misses := n }) count).trans (setPresence_self s a)
  refine .trans ?_ kept
  unfold missPoll
  dsimp only
  split
  next e => rw [lost] at e; cases e
  next => rfl
  next e => rw [lost] at e; cases e
  next e => rw [lost] at e; cases e

/-- The loss of a station, by its state (R59, R152). -/
theorem loseStation_of_open {s : State} {a : Addr} (st : (s.stations.get a).state = .active
      ∨ (s.stations.get a).state = .held ∨ (s.stations.get a).state = .jammed ∨ (s.stations.get a).state = .closing) :
    loseStation s a = seat s a { s.stations.get a with
      state := .detached, remembered := some (s.stations.get a).state
      timer := some ⟨.reconnectGrace, s.timers.reconnectGrace⟩ } := by
  rw [← detach_eq_seat, loseStation]
  rcases st with e | e | e | e <;> simp only [e]

theorem loseStation_of_authorizing {s : State} {a : Addr} (st : (s.stations.get a).state = .authorizing) :
    loseStation s a =
      graced (slotted (unauthorized s a) a (.declined .stationLost)) a s.timers.reconnectGrace := by
  have timers : (slotted (unauthorized s a) a (.declined .stationLost)).timers = s.timers := by
    obtain ⟨_, _, _, e⟩ := releaseAuthorization_eq s a
    simp only [slotted, unauthorized, seat, e]
  simp only [loseStation, st, declineToSlot_eq_slotted, startLossTimer_eq_graced, timers]

theorem loseStation_of_rest {s : State} {a : Addr} (st : (s.stations.get a).state = .idle
      ∨ (s.stations.get a).state = .disabled ∨ (s.stations.get a).state = .offline) :
    loseStation s a = graced (seat s a { s.stations.get a with state := .offline, timer := none }) a
      s.timers.reconnectGrace := by
  rw [← enter_eq_seat, loseStation]
  rcases st with e | e | e <;> simp only [e, startLossTimer_eq_graced] <;> rfl

/-- A loss timer that runs makes its LOST address ABSENT; another does nothing (R152; log entry 4). -/
theorem exec_lossTimerExpiry {s : State} (a : Addr) (low : s.resetLow = false) :
    exec (.lossTimerExpiry (a.val + 1)) s = .next (
      if (s.presence.get a).state = .lost ∧ (s.presence.get a).lossTimer.isSome = true
      then foundMissing s a .absent else s) := by
  rw [exec, execLossTimerExpiry, whenRunning_eq _ _ low, show a.val + 1 = floorNumber a from rfl, atAddr_floorNumber]

/-- An address found ABSENT has a cleared record, and its station at rest goes OFFLINE (R44, R147). -/
theorem foundMissing_absent (s : State) (a : Addr) : foundMissing s a .absent =
    (let t := { s with presence := s.presence.set a { PresenceRecord.reset with
      state := .absent, line := (s.presence.get a).line } }
    if atRest (s.stations.get a).state then seat t a { s.stations.get a with state := .offline, timer := none }
    else t) := by
  have gone : restState (setPresence s a (clearedRecord (s.presence.get a) .absent)) a = .offline := by
    simp [restState, clearedRecord]
  rw [foundMissing, takeRest, gone, enter_eq_seat]
  rfl

/-! ### Return (R60, R86, R152) -/

theorem backTo_eq_seat (s : State) (a : Addr) (st : StationState) : backTo s a st =
    seat s a { s.stations.get a with state := st, remembered := none, timer := none } := by
  rw [backTo, enter_eq_seat, seat_station]
  exact setStation_seat rfl

/-- A HELD station with its extension taken, ACTIVE, with RESUME in its slot (R80, R86). -/
def resumed (s : State) (a : Addr) (j : Job) : State :=
  let e := (offer s j).toNat
  let x := s.accounts.get j.account
  { s with
    accounts := s.accounts.set j.account { x with holdsTotal := x.holdsTotal + e }
    awaiting := forgot s.awaiting a [.resume]
    stations := s.stations.set a (idled s.timers { s.stations.get a with
      state := .active, job := some { j with hold := j.hold + e }, wanted := none, timer := none })
    presence := s.presence.set a { s.presence.get a with line := true, resume := true } }

theorem resumeStation_extend (s : State) (a : Addr) (j : Job) : resumeStation (extend s a j) a = resumed s a j := by
  have seated : setStation (enter (extend s a j) a .active) a
      { (enter (extend s a j) a .active).stations.get a with wanted := none } = seat (extend s a j) a
      { s.stations.get a with
        state := .active, job := some { j with hold := j.hold + (offer s j).toNat }, wanted := none, timer := none } := by
    rw [enter_eq_seat, seat_station, extend_station]
    exact setStation_seat rfl
  simp only [resumeStation, seated, placeResume_eq_forgot, refreshIdle_eq_idled]
  simp only [seat, extend, setJob, setStation, setAccount, Table.get_set_self, Table.set_set]
  rfl

/-- A retry takes a HELD station whose offer covers the wanted amount to ACTIVE, and changes nothing else (R86). -/
theorem retryStation_cases (s : State) (a : Addr) : retryStation s a = s
    ∨ ∃ j w, (s.stations.get a).state = .held ∧ jobAt s a = some j ∧ (s.stations.get a).wanted = some w
      ∧ offerCovers s j w = true ∧ retryStation s a = resumed s a j := by
  unfold retryStation
  dsimp only
  split
  next j w held job wanted =>
    split
    next covers => exact .inr ⟨j, w, held, job, wanted, covers, resumeStation_extend s a j⟩
    next => exact .inl rfl
  next => exact .inl rfl

theorem retryStation_sweep (s : State) (a : Addr) : (retryStation s a).sweep = s.sweep := by
  rcases retryStation_cases s a with e | ⟨j, _, _, _, _, _, e⟩ <;> rw [e]
  rfl

/-- The state that a LOST station returns to, from the record that heard it (R60, R152). -/
theorem returnIf_eq_cameBack (s : State) (a : Addr) (sent : Option Message) :
    returnIf ((s.presence.get a).state == .lost) (heard s a sent) a = cameBack s a sent := by
  have station : (heard s a sent).stations.get a = s.stations.get a := rfl
  have back (st : StationState) (k : TimerKind) : startTimer (backTo (heard s a sent) a st) a k =
      seat (heard s a sent) a { s.stations.get a with
        state := st, remembered := none, timer := some ⟨k, settingOf s.timers k⟩ } := by
    rw [backTo_eq_seat, startTimer_seat]
    rfl
  by_cases lost : (s.presence.get a).state = .lost
  · simp only [lost, beq_self_eq_true, returnIf, returnStation, if_true, cameBack, station]
    cases rest : atRest (s.stations.get a).state with
    | true =>
      have settled : ¬ (s.stations.get a).state = .detached := fun e => by rw [e] at rest; cases rest
      rw [if_neg settled]
      exact takeRest_of_atRest (s := heard s a sent) rest
    | false =>
      by_cases detached : (s.stations.get a).state = .detached
      · simp only [detached, if_true, Bool.false_eq_true, if_false, restoreStation, station]
        match (s.stations.get a).remembered with
        | some .active =>
          simp only [backTo_eq_seat, refreshIdle_seat]
          rfl
        | some .held => simp only [back]
        | some .jammed => simp only [back]
        | some .closing => simp only [back]
        | some .offline | some .disabled | some .idle | some .authorizing | some .detached | none => rfl
      · simp only [detached, if_false, Bool.false_eq_true]
        rw [takeRest, if_neg (by rw [station, rest]; exact nofun)]
  · simp [returnIf, cameBack, lost]

theorem cameBack_of_rest {s : State} {a : Addr} {sent : Option Message} (lost : (s.presence.get a).state = .lost)
    (rest : atRest (s.stations.get a).state = true) : cameBack s a sent = seat (heard s a sent) a
      { s.stations.get a with state := restState (heard s a sent) a, timer := none } := by
  simp only [cameBack, lost, rest, if_true]

/-- A DETACHED station comes back to the state remembered, whose timer starts afresh (R60, R86). -/
theorem cameBack_of_detached {s : State} {a : Addr} {sent : Option Message} (lost : (s.presence.get a).state = .lost)
    (detached : (s.stations.get a).state = .detached) :
    let h := heard s a sent
    let r := s.stations.get a
    let back (state : StationState) (k : TimerKind) : State :=
      seat h a { r with state := state, remembered := none, timer := some ⟨k, settingOf s.timers k⟩ }
    (r.remembered = some .active → cameBack s a sent =
        seat h a (idled s.timers { r with state := .active, remembered := none, timer := none }))
      ∧ (r.remembered = some .held → cameBack s a sent = retryStation (back .held .holdWait) a)
      ∧ (r.remembered = some .jammed → cameBack s a sent = back .jammed .jam)
      ∧ (r.remembered = some .closing → cameBack s a sent = back .closing .drain) := by
  refine ⟨fun e => ?_, fun e => ?_, fun e => ?_, fun e => ?_⟩ <;>
    simp only [cameBack, lost, detached, e, atRest, if_true, Bool.false_eq_true, if_false]

/-- NOTHING from a polled address: it is heard and comes back, and the visit ends (R151, R152). -/
theorem exec_nothing {s : State} {a : Addr} {sent : Option Message} (low : s.resetLow = false)
    (awaited : s.awaiting = .poll a sent) (polled : isPolled (s.presence.get a).state = true) :
    exec (.nothing (a.val + 1)) s = .next (endExchange (cameBack s a sent)) := by
  rw [exec, execNothing, whenRunning_eq _ _ low, stationReply_of_polled awaited polled, returnIf_eq_cameBack]

/-- A missed reply, a garbled one and a frame of another address are one miss (R146, R151). -/
theorem exec_miss {s : State} {a : Addr} {sent : Option Message} (low : s.resetLow = false)
    (awaited : s.awaiting = .poll a sent) (other : Nat) {t : State} (result : endExchange (missPoll s a) = t) :
    exec .missedReply s = .next t ∧ exec .garbledReply s = .next t
      ∧ (other ≠ a.val + 1 → exec (.nothing other) s = .next t) := by
  refine ⟨?_, ?_, fun ne => ?_⟩
  · rw [exec, execMissedReply, whenRunning_eq _ _ low, missed, awaited, ← result]
  · rw [exec, execGarbledReply, whenRunning_eq _ _ low, garbled, awaited, ← result]
  · rw [exec, execNothing, whenRunning_eq _ _ low, stationReply_of_other awaited ne, ← result]

/-- Settles O49: misses, loss, the loss timer and the return, each by the state of the station. -/
theorem lossAndReturn : Obligations.LossAndReturn := by
  intro s a sent other low q r lost graced both
  refine ⟨fun polling => ?_, fun awaited idle isLost three => ?_, fun expires => ?_, fun stopped => ?_,
    fun awaited idle isLost => ?_⟩
  · obtain ⟨_, awaited, present, idle⟩ := polling
    refine ⟨fun few => exec_miss low awaited other ?_, fun many => ?_⟩
    · rw [missPoll_of_few present few]
      exact endExchange_of_idle idle
    · have miss {t : State} (loses : loseStation (lost 3) a = t) (calm : t.sweep = .idle) :
          both { t with awaiting := .none } :=
        exec_miss low awaited other (by rw [missPoll_of_many present many]; exact
          (congrArg endExchange loses).trans (endExchange_of_idle calm))
      refine ⟨fun opened => ?_, fun authorizing => ?_, fun rest => ?_⟩
      · exact miss (loseStation_of_open (s := lost 3) opened) idle
      · exact miss (loseStation_of_authorizing (s := lost 3) authorizing) ((unauthorized_sweep ..).trans idle)
      · exact miss (loseStation_of_rest (s := lost 3) rest) idle
  · exact exec_miss low awaited other (by rw [missPoll_of_lost isLost three, endExchange_of_idle idle])
  · rw [exec_lossTimerExpiry a low, if_pos ⟨expires.1, Option.isSome_iff_ne_none.2 expires.2⟩, foundMissing_absent]
  · rw [exec_lossTimerExpiry a low, if_neg]
    exact fun h => stopped ⟨h.1, Option.isSome_iff_ne_none.1 h.2⟩
  · have polled : isPolled q.state = true := by rw [isLost]; rfl
    have back {t : State} (comes : cameBack s a sent = t) (calm : t.sweep = .idle) :
        exec (.nothing (a.val + 1)) s = .next { t with awaiting := .none } := by
      rw [exec_nothing low awaited polled, comes, endExchange_of_idle calm]
    refine ⟨fun rest => back (cameBack_of_rest isLost rest) idle, fun detached => ?_⟩
    obtain ⟨active, held, jammed, closing⟩ := cameBack_of_detached (sent := sent) isLost detached
    exact ⟨fun e => back (active e) idle, fun e => back (held e) ((retryStation_sweep ..).trans idle),
      fun e => back (jammed e) idle, fun e => back (closing e) idle⟩

end Sys2Proof.Machine

namespace Sys2Proof.Machine

set_option Elab.async false

/-! ## The reply awaited decides nothing but itself (R146, R155)

What is awaited is written, and read only to be written again, by the operations of a station event. So an EVENT comes
to the same in two states that differ in the reply awaited only. -/

/-- Two states that differ in the reply awaited only. -/
def Alike (s t : State) : Prop := ∃ w, t = { s with awaiting := w }

/-- Two results of an event that differ in the reply awaited only. -/
structure AlikeResult (x y : EventResult) : Prop where
  state    : Alike x.state y.state
  outcome  : x.outcome = y.outcome
  attached : x.attached = y.attached

theorem Alike.refl (s : State) : Alike s s := ⟨s.awaiting, rfl⟩

theorem Alike.awaiting {s t : State} (h : Alike s t) (v w : Awaiting) :
    Alike { s with awaiting := v } { t with awaiting := w } := by
  obtain ⟨_, rfl⟩ := h
  exact ⟨w, rfl⟩

theorem Alike.result {s t : State} (h : Alike s t) (o : AnswerOutcome) (x : Attached) :
    AlikeResult ⟨s, o, x⟩ ⟨t, o, x⟩ := ⟨h, rfl, rfl⟩

/-- What writes no reply awaited and reads none. -/
theorem Alike.map {s t : State} (h : Alike s t) (f : State → State)
    (hf : ∀ s w, f { s with awaiting := w } = { f s with awaiting := w } := by exact fun _ _ => rfl) :
    Alike (f s) (f t) := by
  obtain ⟨w, rfl⟩ := h
  exact ⟨w, hf s w⟩

section
variable {s t : State} (h : Alike s t)
include h

theorem Alike.stations : t.stations = s.stations := by
  obtain ⟨_, rfl⟩ := h
  rfl

theorem Alike.setStation (a : Addr) (x : Station) : Alike (setStation s a x) (setStation t a x) :=
  h.map (Machine.setStation · a x)

theorem Alike.seat (a : Addr) (x : Station) : Alike (seat s a x) (seat t a x) :=
  h.map (Machine.seat · a x)

theorem Alike.placeNotice (n : NoticeEntry) : Alike (placeNotice s n) (placeNotice t n) :=
  h.map (Machine.placeNotice · n)

theorem Alike.startTimer (a : Addr) (k : TimerKind) : Alike (startTimer s a k) (startTimer t a k) :=
  h.map (Machine.startTimer · a k)

theorem Alike.refreshIdle (a : Addr) : Alike (refreshIdle s a) (refreshIdle t a) := by
  obtain ⟨w, rfl⟩ := h
  rw [refreshIdle_eq_idled, refreshIdle_eq_idled]
  exact ⟨w, rfl⟩

theorem Alike.takeRest (a : Addr) : Alike (takeRest s a) (takeRest t a) := by
  obtain ⟨w, rfl⟩ := h
  unfold Machine.takeRest
  split
  · exact ⟨w, rfl⟩
  · exact ⟨w, rfl⟩

theorem Alike.withdrawResume (a : Addr) : Alike (withdrawResume s a) (withdrawResume t a) := by
  obtain ⟨w, rfl⟩ := h
  rw [withdrawResume_eq_forgot, withdrawResume_eq_forgot]
  exact ⟨_, rfl⟩

end

/-! ### Authorizations -/

/-- A waiting station without a card leaves the queue and takes no channel. -/
theorem releaseAuthorization_of_cardless {s : State} {a b : Addr} {c : ChannelNo} {q : List Addr}
    (held : channelOf s a = some c) (queue : s.waitQueue = b :: q) (carried : (s.stations.get b).authCard = none) :
    releaseAuthorization s a = { setChannel s c { s.channels.get c with busy := none } with waitQueue := q } := by
  simp only [releaseAuthorization, held, releaseChannel, headTakes, setChannel_waitQueue, queue, setChannel_stations,
    carried]

section
variable {s t : State} (h : Alike s t)
include h

theorem Alike.releaseAuthorization (a : Addr) : Alike (releaseAuthorization s a) (releaseAuthorization t a) := by
  have channel : channelOf t a = channelOf s a := by
    obtain ⟨_, rfl⟩ := h
    rfl
  have waiting : t.waitQueue = s.waitQueue := by
    obtain ⟨_, rfl⟩ := h
    rfl
  cases held : channelOf s a with
  | none =>
    rw [releaseAuthorization_of_none held, releaseAuthorization_of_none (channel.trans held)]
    exact h.map fun u => { u with waitQueue := u.waitQueue.filter fun b => b != a }
  | some c =>
    cases queue : s.waitQueue with
    | nil =>
      rw [releaseAuthorization_of_empty held queue,
        releaseAuthorization_of_empty (channel.trans held) (waiting.trans queue)]
      exact h.map fun u => setChannel u c { u.channels.get c with busy := none }
    | cons b q =>
      cases carried : (s.stations.get b).authCard with
      | none =>
        rw [releaseAuthorization_of_cardless held queue carried, releaseAuthorization_of_cardless
          (channel.trans held) (waiting.trans queue) ((congrArg (fun x => (x.get b).authCard) h.stations).trans carried)]
        exact h.map fun u => { setChannel u c { u.channels.get c with busy := none } with waitQueue := q }
      | some card =>
        rw [releaseAuthorization_of_waiting held queue carried, releaseAuthorization_of_waiting
          (channel.trans held) (waiting.trans queue) ((congrArg (fun x => (x.get b).authCard) h.stations).trans carried)]
        exact h.map fun u => { channelled u c b card.card card.lookup with waitQueue := q }

theorem Alike.unauthorized (a : Addr) : Alike (unauthorized s a) (unauthorized t a) := by
  have released := h.releaseAuthorization a
  obtain ⟨w, rfl⟩ := h
  exact released.seat a _

theorem Alike.levelNoted : Alike (levelNoted s) (levelNoted t) := by
  obtain ⟨w, rfl⟩ := h
  unfold Machine.levelNoted
  split
  · exact ⟨w, rfl⟩
  · exact ⟨w, rfl⟩

theorem Alike.granted (a : Addr) (n : AccountNo) (guest : Bool) (ceiling : Option Nat) (hold : Nat) :
    Alike (granted s a n guest ceiling hold) (granted t a n guest ceiling hold) := by
  obtain ⟨w, rfl⟩ := h
  let charged := setAccount s n (chargedAccount (s.accounts.get n) hold)
  have released : Alike (Machine.releaseAuthorization charged a)
      (Machine.releaseAuthorization { charged with awaiting := w } a) := Alike.releaseAuthorization ⟨w, rfl⟩ a
  have reserved := (released.map fun u => { u with reservations := u.reservations + 1 }).levelNoted
  exact (reserved.map fun u => { u with plans := u.plans.set _ _ }).seat a _

theorem Alike.goOnline (a : Addr) (card : AuthCard) : Alike (goOnline s a card) (goOnline t a card) := by
  obtain ⟨w, rfl⟩ := h
  rw [goOnline_eq, goOnline_eq, show freeChannel { s with awaiting := w } = freeChannel s from rfl]
  cases freeChannel s with
  | none => exact ⟨w, rfl⟩
  | some c => exact ⟨w, rfl⟩

/-! ### Retries and closes -/

theorem Alike.retryStation (a : Addr) : Alike (retryStation s a) (retryStation t a) := by
  obtain ⟨w, rfl⟩ := h
  simp only [Machine.retryStation]
  split
  next j wanted _ _ _ =>
    rw [show offerCovers { s with awaiting := w } j wanted = offerCovers s j wanted from rfl]
    split
    · rw [resumeStation_extend, resumeStation_extend]
      exact ⟨_, rfl⟩
    · exact ⟨w, rfl⟩
  next => exact ⟨w, rfl⟩

end

theorem Alike.foldl {α : Type} {f : State → α → State} (hf : ∀ s t x, Alike s t → Alike (f s x) (f t x)) (l : List α)
    {s t : State} (h : Alike s t) : Alike (l.foldl f s) (l.foldl f t) := by
  induction l generalizing s t with
  | nil => exact h
  | cons x l ih => exact ih (hf s t x h)

section
variable {s t : State} (h : Alike s t)
include h

theorem Alike.retryAccount (n : AccountNo) : Alike (retryAccount s n) (retryAccount t n) := by
  refine Alike.foldl (fun s t a h => ?_) _ h
  have on : jobOn t n a = jobOn s n a := by rw [jobOn, jobOn, h.stations]
  rw [on]
  split
  · exact h.retryStation a
  · exact h

theorem Alike.closed (a : Addr) (why : EndReason) (j : Job) : Alike (closed s a why j) (closed t a why j) := by
  obtain ⟨w, rfl⟩ := h
  exact ⟨_, rfl⟩

theorem Alike.settled (a : Addr) (why : EndReason) (j : Job) : Alike (settled s a why j) (settled t a why j) := by
  have closed := h.closed a why j
  obtain ⟨w, rfl⟩ := h
  unfold Machine.settled
  rw [show settledRecord { s with awaiting := w } j = settledRecord s j from rfl]
  split
  · exact closed.retryAccount j.account
  · exact closed

theorem Alike.closeJob (a : Addr) (why : EndReason) : Alike (closeJob s a why true).1 (closeJob t a why true).1
    ∧ (Machine.closeJob s a why true).2 = (Machine.closeJob t a why true).2 := by
  have job : jobAt t a = jobAt s a := by rw [jobAt, jobAt, h.stations]
  cases hj : jobAt s a with
  | none =>
    rw [closeJob_eq_none hj, closeJob_eq_none (job.trans hj)]
    exact ⟨h, rfl⟩
  | some j =>
    rw [closeJob_eq_settled hj, closeJob_eq_settled (job.trans hj)]
    refine ⟨h.settled a why j, ?_⟩
    obtain ⟨w, rfl⟩ := h
    rfl

theorem Alike.beginClosing (a : Addr) (why : EndReason) : Alike (beginClosing s a why).1 (beginClosing t a why).1
    ∧ (Machine.beginClosing s a why).2 = (Machine.beginClosing t a why).2 := by
  have shut := h.map fun u => Machine.setStation (enter u a .closing) a
    { (enter u a .closing).stations.get a with pendingEnd := some why, wanted := none }
  unfold Machine.beginClosing
  rw [h.stations]
  split
  next => exact ⟨h, rfl⟩
  next j _ =>
    dsimp only
    split
    · exact shut.closeJob a why
    · exact ⟨shut.startTimer a .drain, rfl⟩

/-! ### Station events -/

theorem Alike.takeCard (n : Nat) (a : Addr) : AlikeResult (takeCard n s a) (takeCard n t a) := by
  have lookup : lookupCard t n = lookupCard s n := by
    obtain ⟨_, rfl⟩ := h
    rfl
  have checks (l : Option CardLookup) : localChecks t l = localChecks s l := by
    obtain ⟨_, rfl⟩ := h
    rfl
  unfold Machine.takeCard
  rw [h.stations]
  split
  next =>
    unfold authorizeCard
    dsimp only
    rw [lookup, checks]
    split
    next => exact (h.takeRest a).result _ _
    next => exact (h.goOnline a _).result _ _
    next n ceiling hold _ =>
      rw [grant_eq_granted, grant_eq_granted]
      exact (h.granted a n false ceiling hold).result _ _
  all_goals exact h.result _ _

theorem Alike.takeCancel (a : Addr) : AlikeResult (takeCancel s a) (takeCancel t a) := by
  unfold Machine.takeCancel
  rw [h.stations]
  split
  · rw [endAuthorization_eq_unauthorized, endAuthorization_eq_unauthorized]
    exact (h.unauthorized a).result _ _
  · exact h.result _ _

theorem Alike.grantFeed (a : Addr) (j : Job) (e : InFlight) :
    AlikeResult (grantFeed s a j e) (grantFeed t a j e) :=
  (h.map fun u => stopTimer (setJob u a (admitEntry j e)) a).result _ _

theorem Alike.enterHeld (a : Addr) (wanted : Nat) : Alike (enterHeld s a wanted) (enterHeld t a wanted) :=
  (h.withdrawResume a).map fun u => Machine.startTimer (Machine.setStation (enter u a .held) a
    { (enter u a .held).stations.get a with wanted := some wanted }) a .holdWait

theorem Alike.takeFeed (sheet : U16) (sides : Sides) (a : Addr) :
    AlikeResult (takeFeed sheet sides s a) (takeFeed sheet sides t a) := by
  unfold Machine.takeFeed
  rw [h.stations]
  split
  next =>
    split
    next => exact h.result _ _
    next j _ =>
      have refusal : feedRefusal t a j (feedNumber sheet) sides = feedRefusal s a j (feedNumber sheet) sides := by
        obtain ⟨_, rfl⟩ := h
        rfl
      rw [refusal]
      split
      next => exact h.result _ _
      next =>
        have entry : feedEntry t j (feedNumber sheet) sides = feedEntry s j (feedNumber sheet) sides := by
          obtain ⟨_, rfl⟩ := h
          rfl
        have offers : offer t j = offer s j := by
          obtain ⟨_, rfl⟩ := h
          rfl
        rw [entry]
        unfold holdCheck offerCovers
        rw [offers]
        split
        · exact h.grantFeed a j _
        · split
          · exact (h.map fun u => extend u a j).grantFeed a _ _
          · exact (h.enterHeld a _).result _ _
  all_goals exact h.result _ _

theorem Alike.takeJam (cause : JamCause) (a : Addr) : AlikeResult (takeJam cause s a) (takeJam cause t a) := by
  have jam := h.map (recordJam · a cause)
  have jammed := jam.map (enterJammed · a)
  have reason : pendingReason (recordJam t a cause) a = pendingReason (recordJam s a cause) a := by
    rw [pendingReason, pendingReason, jam.stations]
  unfold Machine.takeJam
  dsimp only
  rw [h.stations]
  split
  next => exact jammed.result _ _
  next => exact jammed.result _ _
  next =>
    rw [reason]
    obtain ⟨state, note⟩ := jam.closeJob a (pendingReason (recordJam s a cause) a)
    exact ⟨state, rfl, congrArg attachClosed note⟩
  all_goals exact jam.result _ _

theorem Alike.orderError (a : Addr) : AlikeResult (orderError s a) (orderError t a) := by
  obtain ⟨state, _, attached⟩ := h.takeJam .order a
  exact ⟨state, rfl, attached⟩

theorem Alike.takeMatching (a : Addr) (j : Job) (e : InFlight) (rest : List InFlight) :
    AlikeResult (takeMatching s a j e rest) (takeMatching t a j e rest) := by
  have counted := h.map fun u => setJob (countSheet u a j.service e) a (deliverEntry j e rest)
  have reason : pendingReason (setJob (countSheet t a j.service e) a (deliverEntry j e rest)) a
      = pendingReason (setJob (countSheet s a j.service e) a (deliverEntry j e rest)) a := by
    rw [pendingReason, pendingReason, counted.stations]
  unfold Machine.takeMatching
  dsimp only
  rw [h.stations]
  split
  · rw [reason]
    obtain ⟨state, note⟩ := counted.closeJob a
      (pendingReason (setJob (countSheet s a j.service e) a (deliverEntry j e rest)) a)
    exact ⟨state, rfl, congrArg attachClosed note⟩
  · exact counted.result _ _

theorem Alike.takeDelivered (sheet : U16) (a : Addr) :
    AlikeResult (takeDelivered sheet s a) (takeDelivered sheet t a) := by
  have matched : AlikeResult (matchDelivery sheet s a) (matchDelivery sheet t a) := by
    unfold matchDelivery
    rw [h.stations]
    split
    next => exact h.result _ _
    next j _ =>
      split
      next => exact h.orderError a
      next e rest _ =>
        split
        · exact h.takeMatching a j e rest
        · exact h.orderError a
  unfold Machine.takeDelivered
  rw [h.stations]
  split
  iterate 3 next => exact matched
  next => exact h.orderError a
  all_goals exact h.result _ _

theorem Alike.takeRecovered (restart : U16) (a : Addr) :
    AlikeResult (takeRecovered restart s a) (takeRecovered restart t a) := by
  unfold Machine.takeRecovered
  dsimp only
  rw [h.stations]
  split
  next j _ _ =>
    split
    · exact h.result _ _
    · split
      · exact h.result _ _
      · have moved := h.map fun u =>
          enter (setJob (meterWriteOff u a (restartWriteOff j restart.val)) a (restartJob j restart.val)) a .active
        exact ((moved.refreshIdle a).placeNotice _).result _ _
  next => exact h.result _ _

theorem Alike.takeStatus (f : EngineFlags) (a : Addr) : AlikeResult (takeStatus f s a) (takeStatus f t a) := by
  have set := h.setStation a { s.stations.get a with engine := statusEngine (s.stations.get a).engine f }
  unfold Machine.takeStatus
  rw [h.stations]
  refine Alike.result ?_ _ _
  split
  · exact set
  · exact set.placeNotice _

theorem Alike.takeFinish (a : Addr) : AlikeResult (takeFinish s a) (takeFinish t a) := by
  have closing : AlikeResult
      ⟨(Machine.beginClosing s a .finished).1, finishOutcome (Machine.beginClosing s a .finished).2,
        attachClosed (Machine.beginClosing s a .finished).2⟩
      ⟨(Machine.beginClosing t a .finished).1, finishOutcome (Machine.beginClosing t a .finished).2,
        attachClosed (Machine.beginClosing t a .finished).2⟩ := by
    obtain ⟨state, note⟩ := h.beginClosing a .finished
    exact ⟨state, congrArg finishOutcome note, congrArg attachClosed note⟩
  unfold Machine.takeFinish
  rw [h.stations]
  split
  next => exact closing
  next => exact closing
  next =>
    obtain ⟨state, note⟩ := h.closeJob a .finished
    exact ⟨state, rfl, congrArg attachClosed note⟩
  all_goals exact h.result _ _

end

/-- A station event that does not depend on the reply awaited. -/
def Blind (ju : State → Addr → EventResult) : Prop := ∀ {s t : State} (a : Addr), Alike s t → AlikeResult (ju s a) (ju t a)

/-- The last answer goes out again where one is kept (R154). -/
theorem repeatAnswer_of_some {s : State} {a : Addr} {x : Answer} (last : (s.presence.get a).lastAnswer = some x) :
    repeatAnswer s a = { s with floorTx := [.answer a x] } := by
  simp only [repeatAnswer, last]

section
variable {s t : State} (h : Alike s t)
include h

theorem Alike.repeatAnswer (a : Addr) : Alike (repeatAnswer s a) (repeatAnswer t a) := by
  have presence : t.presence = s.presence := by
    obtain ⟨_, rfl⟩ := h
    rfl
  cases last : (s.presence.get a).lastAnswer with
  | none =>
    have gone : (t.presence.get a).lastAnswer = none := by rw [presence, last]
    simpa only [Machine.repeatAnswer, last, gone] using h
  | some x =>
    rw [repeatAnswer_of_some last, repeatAnswer_of_some (x := x) (by rw [presence, last])]
    exact h.map fun u => { u with floorTx := [.answer a x] }

/-- The taking of an EVENT of a PRESENT address depends on the reply awaited in nothing else (R154). -/
theorem Alike.takeEvent (toggle : Bool) (kind : EventKind) {ju : State → Addr → EventResult} (blind : Blind ju)
    (a : Addr) : Alike (takeEvent toggle kind ju a false s) (takeEvent toggle kind ju a false t) := by
  obtain ⟨state, outcome, attached⟩ := blind a h
  have presence : t.presence = s.presence := by
    obtain ⟨_, rfl⟩ := h
    rfl
  have sweep : t.sweep = s.sweep := by
    obtain ⟨_, rfl⟩ := h
    rfl
  have work : startsWork t (ju t a).state a = startsWork s (ju s a).state a := by
    rw [startsWork, startsWork, h.stations, state.stations]
  unfold Machine.takeEvent
  simp only [returnIf, Bool.false_eq_true, if_false]
  rw [presence, sweep, work, ← outcome, ← attached]
  split
  · exact h.repeatAnswer a
  · split
    · exact h
    · exact (state.refreshIdle a).map fun u => sendAnswer u a ⟨toggle, kind, (ju s a).outcome, (ju s a).attached⟩

/-- The end of a visit does not read the reply awaited (R150). -/
theorem Alike.endExchange : endExchange s = endExchange t := by
  obtain ⟨w, rfl⟩ := h
  rfl

end

end Sys2Proof.Machine

namespace Sys2Proof.Machine

set_option Elab.async false

/-! ## Replies without an event, and repeats (R40, R60, R61, R102, R146, R151 to R155) -/

/-! ### What hearing and coming back leave -/

theorem heard_eq (s : State) (a : Addr) (sent : Option Message) : heard s a sent =
    { s with presence := s.presence.set a { s.presence.get a with
      state := .present, misses := 0, lossTimer := none
      jobClosed := if sent = some .jobClosed then none else (s.presence.get a).jobClosed
      cardResult := if sent = some .cardResult then none else (s.presence.get a).cardResult
      resume := if sent = some .resume then false else (s.presence.get a).resume
      panel := if sent = some .panel then (s.presence.get a).panel.tail else (s.presence.get a).panel } } := by
  match sent with
  | some .jobClosed | some .cardResult | some .resume | some .panel | none => rfl

theorem heard_record (s : State) (a : Addr) (sent : Option Message) :
    ((heard s a sent).presence.get a).state = .present
      ∧ ((heard s a sent).presence.get a).token = (s.presence.get a).token
      ∧ ((heard s a sent).presence.get a).toggle = (s.presence.get a).toggle
      ∧ ((heard s a sent).presence.get a).lastAnswer = (s.presence.get a).lastAnswer := by
  rw [heard_eq, Table.get_set_self]
  exact ⟨rfl, rfl, rfl, rfl⟩

theorem cameBack_of_present {s : State} {a : Addr} {sent : Option Message} (present : (s.presence.get a).state = .present) :
    cameBack s a sent = heard s a sent := by
  simp [cameBack, present]

/-- Between two states the presence record of an address differs in line and RESUME only, sweep and pin not at all. -/
structure StillHeard (s t : State) (a : Addr) : Prop where
  sweep    : t.sweep = s.sweep
  resetLow : t.resetLow = s.resetLow
  presence : ∃ line resume, t.presence.get a = { s.presence.get a with line := line, resume := resume }

theorem StillHeard.refl (s : State) (a : Addr) : StillHeard s s a := ⟨rfl, rfl, _, _, rfl⟩

theorem StillHeard.seat (s : State) (a : Addr) (r : Station) : StillHeard s (seat s a r) a :=
  ⟨rfl, rfl, _, _, Table.get_set_self ..⟩

theorem StillHeard.retryStation {s t : State} {a : Addr} (h : StillHeard s t a) :
    StillHeard s (retryStation t a) a := by
  rcases retryStation_cases t a with e | ⟨j, _, _, _, _, _, e⟩ <;> rw [e]
  · exact h
  · obtain ⟨sweep, low, _, _, presence⟩ := h
    refine ⟨sweep, low, true, true, ?_⟩
    simp only [resumed, Table.get_set_self, presence]

theorem stillHeard_cameBack (s : State) (a : Addr) (sent : Option Message) :
    StillHeard (heard s a sent) (cameBack s a sent) a := by
  unfold cameBack
  dsimp only
  split
  · split
    · exact .seat _ a _
    · split
      · split
        · exact .seat _ a _
        · exact (StillHeard.seat _ a _).retryStation
        · exact .seat _ a _
        · exact .seat _ a _
        · exact .refl _ a
      · exact .refl _ a
  · exact .refl _ a

/-- A station that came back has been heard: hearing it again changes nothing. -/
theorem heard_of_stillHeard {s t : State} {a : Addr} {sent : Option Message} (h : StillHeard (heard s a sent) t a) :
    heard t a none = t := by
  obtain ⟨_, _, _, _, presence⟩ := h
  have record : { confirmIn (t.presence.get a) none with state := .present, misses := 0, lossTimer := none }
      = t.presence.get a := by
    rw [presence, heard_presence]
    rfl
  rw [heard, record, setPresence_self]

/-! ### EVENTs in the words of the model (R154) -/

/-- Every EVENT of a station is a frame that the job unit takes without reading the reply awaited (R146, R154). -/
theorem exec_event {a : Addr} {toggle : Bool} {c : Instr} (event : EventFrom (a.val + 1) toggle c) :
    ∃ (kind : EventKind) (ju : State → Addr → EventResult), Blind ju ∧ ∀ s : State, s.resetLow = false →
      exec c s = .next (stationReply (a.val + 1) s (takeEvent toggle kind ju)) := by
  have run (kind : EventKind) (ju : State → Addr → EventResult) (s : State) (low : s.resetLow = false) :
      whenRunning s (fun s => stationReply (a.val + 1) s (takeEvent toggle kind ju)) =
        .next (stationReply (a.val + 1) s (takeEvent toggle kind ju)) := whenRunning_eq _ _ low
  cases event with
  | card n least most =>
    refine ⟨.card, takeCard n, fun a h => h.takeCard n a, fun s low => ?_⟩
    rw [exec, execCard, whenRunning_eq _ _ low, if_pos (cardInRange_iff.2 ⟨least, most⟩)]
  | cancel => exact ⟨_, _, fun a h => h.takeCancel a, run .cancel takeCancel⟩
  | feed n x => exact ⟨_, _, fun a h => h.takeFeed n x a, run .feed (takeFeed n x)⟩
  | delivered n => exact ⟨_, _, fun a h => h.takeDelivered n a, run .delivered (takeDelivered n)⟩
  | jam x => exact ⟨_, _, fun a h => h.takeJam _ a, run .jam (takeJam (.location x))⟩
  | recovered n => exact ⟨_, _, fun a h => h.takeRecovered n a, run .recovered (takeRecovered n)⟩
  | status f => exact ⟨_, _, fun a h => h.takeStatus f a, run .status (takeStatus f)⟩
  | finish => exact ⟨_, _, fun a h => h.takeFinish a, run .finish takeFinish⟩

/-- The taking of an EVENT starts with the return of a LOST station (R151, R154). -/
theorem takeEvent_eq_returned (toggle : Bool) (kind : EventKind) (ju : State → Addr → EventResult) (a : Addr)
    (lost : Bool) (s : State) :
    takeEvent toggle kind ju a lost s = takeEvent toggle kind ju a false (returnIf lost s a) := rfl

/-- An EVENT with the toggle of the last one is a repeat (R154). -/
theorem takeEvent_of_repeat {s : State} {a : Addr} {toggle : Bool} (kind : EventKind) (ju : State → Addr → EventResult)
    (repeated : (s.presence.get a).toggle = some toggle) : takeEvent toggle kind ju a false s = repeatAnswer s a :=
  if_pos repeated

/-- An EVENT of a polled address is taken in the state that it comes back to (R151, R154). -/
theorem stationReply_event {s : State} {a : Addr} {sent : Option Message} (awaited : s.awaiting = .poll a sent)
    (polled : isPolled (s.presence.get a).state = true) (toggle : Bool) (kind : EventKind)
    (ju : State → Addr → EventResult) : stationReply (a.val + 1) s (takeEvent toggle kind ju) =
      endExchange (takeEvent toggle kind ju a false (cameBack s a sent)) := by
  rw [stationReply_of_polled awaited polled, takeEvent_eq_returned, returnIf_eq_cameBack]

/-! ### HELLO (R153) -/

theorem settled_sweep (s : State) (a : Addr) (why : EndReason) (j : Job) : (settled s a why j).sweep = s.sweep := by
  have retried (l : List Addr) (n : AccountNo) (t : State) :
      (l.foldl (fun t b => if jobOn t n b then retryStation t b else t) t).sweep = t.sweep := by
    induction l generalizing t with
    | nil => rfl
    | cons b l ih =>
      rw [List.foldl_cons, ih]
      split
      · exact retryStation_sweep t b
      · rfl
  unfold settled
  split
  · exact retried ..
  · rfl

/-- A station restarted, newly present (R61, R102). -/
def freshened (s : State) (a : Addr) : State :=
  { s with stations := s.stations.set a { s.stations.get a with engine := EngineStatus.reset } }

theorem restartStation_of_rest {s : State} {a : Addr} (rest : atRest (s.stations.get a).state = true) :
    restartStation s a =
      freshened (seat s a { s.stations.get a with state := restState s a, timer := none }) a := by
  rw [← takeRest_of_atRest rest, restartStation]
  cases state : (s.stations.get a).state with
  | offline | disabled | idle => rfl
  | authorizing | active | held | jammed | closing | detached => rw [state] at rest; cases rest

theorem restartStation_of_authorizing {s : State} {a : Addr} (state : (s.stations.get a).state = .authorizing) :
    restartStation s a = freshened (slotted (unauthorized s a) a (.declined .stationReset)) a := by
  rw [← declineToSlot_eq_slotted]
  simp only [restartStation, state]
  rfl

theorem restartStation_of_open {s : State} {a : Addr} {j : Job} (opened : hasOpenJob (s.stations.get a).state = true)
    (hj : jobAt s a = some j) : restartStation s a = freshened (closedAway s a .stationReset j) a := by
  rw [← closeToSlot_eq_closedAway hj]
  unfold restartStation
  cases state : (s.stations.get a).state with
  | active | held | jammed | closing | detached => rfl
  | offline | disabled | idle | authorizing => rw [state] at opened; cases opened

/-- A HELLO with a new token: token and capabilities are replaced, then the station restarts (R153). -/
theorem takeHello_of_new {s : State} {a : Addr} {token : U16} (caps : Capabilities) (lost : Bool)
    (new : (s.presence.get a).token ≠ some token) : takeHello token caps a lost s = restartStation (setPresence s a
      { s.presence.get a with token := some token, capabilities := caps, toggle := none, lastAnswer := none }) a := by
  rw [takeHello, if_neg new]
  simp only [clearToggle, setPresence, Table.get_set_self, Table.set_set]

theorem takeHello_of_known {s : State} {a : Addr} {token : U16} (caps : Capabilities) (lost : Bool)
    (known : (s.presence.get a).token = some token) :
    takeHello token caps a lost s = clearToggle (returnIf lost s a) a := if_pos known

theorem exec_hello {s : State} {a : Addr} {sent : Option Message} (low : s.resetLow = false)
    (awaited : s.awaiting = .poll a sent) (polled : isPolled (s.presence.get a).state = true) (token : U16)
    (caps : Capabilities) : exec (.hello (a.val + 1) token caps) s =
      .next (endExchange (takeHello token caps a ((s.presence.get a).state == .lost) (heard s a sent))) := by
  rw [exec, execHello, whenRunning_eq _ _ low, stationReply_of_polled awaited polled]

/-- Settles O48: each reply is taken on the state that heard it, and an EVENT of a LOST address on the one it came
back to. -/
theorem pollRepliesWithoutAnEvent : Obligations.PollRepliesWithoutAnEvent := by
  intro s a sent token caps toggle x j c number visited p h b idle fresh t
  obtain ⟨low, awaited, presence, calm⟩ := visited
  have polled : isPolled p.state = true := by
    rcases presence with e | e <;> rw [show p.state = _ from e] <;> rfl
  obtain ⟨heardState, heardToken, heardToggle, heardAnswer⟩ := heard_record s a sent
  have still : StillHeard h b a := stillHeard_cameBack s a sent
  have present : (b.presence.get a).state = .present := by
    obtain ⟨_, _, kept⟩ := still.presence
    rw [kept]
    exact heardState
  refine ⟨heard_eq s a sent, cameBack_of_present, ?_, fun known => ?_, fun new => ?_, fun event => ?_, fun out => ?_⟩
  · rw [exec_nothing low awaited polled, endExchange_of_idle (still.sweep.trans calm)]
  · rw [exec_hello low awaited polled, takeHello_of_known caps _ (heardToken.trans known), returnIf_eq_cameBack]
    exact congrArg Host.Outcome.next (endExchange_of_idle (s := clearToggle b a) (still.sweep.trans calm))
  · have hello {u : State} (restarts : restartStation t a = freshened u a) (quiet : u.sweep = .idle) :
        exec (.hello (a.val + 1) token caps) s = .next (fresh u) := by
      rw [exec_hello low awaited polled, takeHello_of_new caps _ (fun e => new (heardToken.symm.trans e))]
      exact congrArg Host.Outcome.next
        ((congrArg endExchange restarts).trans (endExchange_of_idle (s := freshened u a) quiet))
    refine ⟨fun rest => hello (restartStation_of_rest ?_) calm, fun authorizing =>
      hello (restartStation_of_authorizing authorizing) ((unauthorized_sweep ..).trans calm), fun opened hj =>
      hello (restartStation_of_open opened hj) ((settled_sweep ..).trans calm)⟩
    change atRest (s.stations.get a).state = true
    rcases rest with e | e | e <;> rw [e] <;> rfl
  · obtain ⟨kind, ju, blind, run⟩ := exec_event event
    have result : exec c s = .next (endExchange (takeEvent toggle kind ju a false b)) := by
      rw [run s low, stationReply_event awaited polled]
    refine ⟨fun repeated last => ?_, fun isLost => ⟨⟨still.resetLow.trans low, rfl, ?_, still.sweep.trans calm⟩, ?_⟩⟩
    · obtain ⟨_, _, kept⟩ := still.presence
      have toggled : (b.presence.get a).toggle = some toggle := by rw [kept]; exact heardToggle.trans repeated
      have answered : (b.presence.get a).lastAnswer = some x := by rw [kept]; exact heardAnswer.trans last
      rw [result, takeEvent_of_repeat kind ju toggled, repeatAnswer_of_some answered]
      exact congrArg Host.Outcome.next (endExchange_of_idle (s := { b with floorTx := _ }) (still.sweep.trans calm))
    · exact present
    · let w : State := { b with awaiting := .poll a none }
      have settled : cameBack w a none = w := by
        rw [cameBack_of_present (s := w) present]
        exact heard_of_stillHeard (t := w) ⟨still.sweep, still.resetLow, still.presence⟩
      rw [result, run w (still.resetLow.trans low),
        stationReply_event (s := w) rfl (by rw [show (w.presence.get a).state = .present from present]; rfl), settled]
      exact congrArg Host.Outcome.next (Alike.takeEvent ⟨_, rfl⟩ toggle kind blind a).endExchange
  · have garbled : exec (.card (a.val + 1) toggle number) s = .next (garbled s) := by
      rw [exec, execCard, whenRunning_eq _ _ low, if_neg]
      rw [cardInRange_iff]
      omega
    rw [garbled, exec, execGarbledReply, whenRunning_eq _ _ low]

end Sys2Proof.Machine

namespace Sys2Proof.Machine

set_option Elab.async false

/-! ## Resets (R42, R57, R63, R89, R95, R137, R148, R165, R174) -/

/-! ### The reset pin and RESET FULL -/

/-- While the reset pin is low no command but the pin's changes anything (R174). -/
theorem exec_low {s : State} {c : Instr} (low : s.resetLow = true) (assert : c ≠ .resetPinAssert)
    (release : c ≠ .resetPinRelease) : exec c s = .next s := by
  have kept (t : State) : Host.Outcome.next (φ := Fault) (ρ := Refusal) (if s.resetLow = true then s else t) = .next s := by
    rw [if_pos low]
  cases c with
  | resetPinAssert => exact absurd rfl assert
  | resetPinRelease => exact absurd rfl release
  | _ => exact kept _

theorem exec_resetFull {s : State} (low : s.resetLow = false) (req : Nat) :
    exec (.resetFull req) s = .next { State.reset with
      straps := s.straps, rate := rateOf s.straps, freeTick := s.freeTick, pending := s.pending
      officeTx := if s.responses = [] then s.officeTx else s.responses.map .response
      responses := [{ kind := 29, req, status := .ok, figures := .none }] } := by
  refine (request_answered (k := .reset) (f := fun s => accept .none (fullReset (sendAll s))) low rfl).trans
    (congrArg Host.Outcome.next ?_)
  unfold sendAll
  cases s.responses with
  | nil => rfl
  | cons r q => rfl

/-! ### One close of RESET FLOOR -/

/-- A close with CONTROLLER_RESET where there is a job (R95). -/
def closeNow (s : State) (a : Addr) : State :=
  match jobAt s a with
  | some j => closed s a .controllerReset j
  | none => s

theorem closeNow_of_job {s : State} {a : Addr} {j : Job} (hj : jobAt s a = some j) :
    closeNow s a = closed s a .controllerReset j := by rw [closeNow, hj]

theorem closeJob_eq_closeNow (s : State) (a : Addr) : (closeJob s a .controllerReset false).1 = closeNow s a := by
  cases hj : jobAt s a with
  | none => rw [closeJob_eq_none hj, closeNow, hj]
  | some j => rw [closeJob_eq_closed hj, closeNow_of_job hj]

/-- Closes read and write neither the window nor the counter of free orders. -/
theorem closeNow_foldl_with (l : List Addr) (s : State) (k : Nat) (w : Option Window) :
    l.foldl closeNow { s with window := w, freeTick := k } = { l.foldl closeNow s with window := w, freeTick := k } := by
  induction l generalizing s with
  | nil => rfl
  | cons a l ih =>
    have one : closeNow { s with window := w, freeTick := k } a = { closeNow s a with window := w, freeTick := k } := by
      unfold closeNow
      rw [show jobAt { s with window := w, freeTick := k } a = jobAt s a from rfl]
      cases jobAt s a <;> rfl
    rw [List.foldl_cons, List.foldl_cons, one, ih]

/-! ### What one close leaves of each table -/

theorem closed_stations_of_ne {s : State} {a b : Addr} (why : EndReason) (j : Job) (ne : b ≠ a) :
    (closed s a why j).stations.get b = s.stations.get b := Table.get_set_ne _ _ ne.symm

theorem jobAt_closed_of_ne {s : State} {a b : Addr} (why : EndReason) (j : Job) (ne : b ≠ a) :
    jobAt (closed s a why j) b = jobAt s b := by rw [jobAt, closed_stations_of_ne why j ne, jobAt]

theorem closed_meters_of_ne {s : State} {a b : Addr} (why : EndReason) (j : Job) (ne : b ≠ a) :
    (closed s a why j).meters.get b = s.meters.get b := Table.get_set_ne _ _ ne.symm

theorem closed_meters_self (s : State) (a : Addr) (why : EndReason) (j : Job) :
    (closed s a why j).meters.get a = { s.meters.get a with
      writtenOff := rolled (s.meters.get a).writtenOff (j.highest - j.confirmed) } := Table.get_set_self ..

theorem closed_plans (s : State) (a : Addr) (why : EndReason) (j : Job) (p : PlanNo) :
    { (closed s a why j).plans.get p with captures := 0 } = { s.plans.get p with captures := 0 } := by
  simp only [closed, Table.get_set]
  split
  next e => rw [e]
  next => rfl

theorem closed_account_of_ne {s : State} {a : Addr} {n : AccountNo} (why : EndReason) {j : Job} (ne : j.account ≠ n) :
    (closed s a why j).accounts.get n = s.accounts.get n := Table.get_set_ne _ _ ne

/-- A close on a regular record changes balance, holds total, open jobs and the changed flag of it (R90, R91). -/
theorem closed_account_of_regular (s : State) (a : Addr) (why : EndReason) {j : Job} (regular : j.guest = false) :
    ∃ balance holds count, (closed s a why j).accounts.get j.account = { s.accounts.get j.account with
      balance := balance, holdsTotal := holds, openJobs := count, changed := true } := by
  rw [closed_account, if_neg (by simp [regular])]
  exact ⟨_, _, _, rfl⟩

/-- A close writes one JOB record (R92, R121). -/
theorem closed_journal (s : State) (a : Addr) (why : EndReason) (j : Job) : ∃ b : JobRecord,
    (closed s a why j).journal = s.journal ++ [⟨s.nextSeq, .job b⟩] ∧ b.station = a ∧ b.reason = why
      ∧ b.writtenOff = j.writtenOff + (j.highest - j.confirmed) := ⟨_, rfl, rfl, rfl, rfl⟩

/-- A STATION_STATUS already queued is updated in its place, which changes nothing (R159). -/
theorem placeIn_stationStatus (a : Addr) (q : List NoticeEntry) : placeIn (.stationStatus a) q =
    if q.contains (.stationStatus a) then q else q ++ [.stationStatus a] := by
  induction q with
  | nil => rfl
  | cons e q ih =>
    have same : sameSubject e (.stationStatus a) = decide (e = .stationStatus a) := by
      cases e <;> simp [sameSubject]
      rfl
    by_cases here : e = .stationStatus a
    · simp [placeIn, sameSubject, here]
    · simp only [placeIn, same, here, decide_false, Bool.false_eq_true, if_false, ih, List.contains_cons,
        beq_eq_false_iff_ne.2 (Ne.symm here), Bool.false_or]
      split <;> rfl

/-- The jobs of the stations `l` closed with CONTROLLER_RESET, from `s` to `v`: what becomes of each table. -/
structure ClosedOut (l : List Addr) (s v : State) : Prop where
  frame    : v = { s with
    accounts := v.accounts, plans := v.plans, journal := v.journal, nextSeq := v.nextSeq
    reservations := s.reservations - l.length, meters := v.meters, stations := v.stations, presence := v.presence
    awaiting := v.awaiting, notices := v.notices }
  stations : ∀ a, a ∉ l → v.stations.get a = s.stations.get a
  journal  : ∃ added : List JournalRecord, v.journal = s.journal ++ added ∧ added.length = l.length
    ∧ ∀ r ∈ added, ∃ b : JobRecord, r.body = .job b ∧ b.reason = .controllerReset
  nextSeq  : v.nextSeq = sequenceAfter^[l.length] s.nextSeq
  meters   : ∀ a, a ∉ l → v.meters.get a = s.meters.get a
  writeOff : ∀ a ∈ l, ∀ j, jobAt s a = some j → v.meters.get a = { s.meters.get a with
    writtenOff := rolled (s.meters.get a).writtenOff (j.highest - j.confirmed) }
  plans    : ∀ p, { v.plans.get p with captures := 0 } = { s.plans.get p with captures := 0 }
  notices  : v.notices = s.notices ++ (l.filter fun a => (s.stations.get a).state == .jammed
    && !s.notices.contains (.stationStatus a)).map .stationStatus
  spared   : ∀ n, (∀ a ∈ l, ∀ j, jobAt s a = some j → j.account ≠ n) → v.accounts.get n = s.accounts.get n
  guest    : ∀ n, (∀ a ∈ l, ∀ j, jobAt s a = some j → j.account = n → j.guest = true) →
    (∃ a ∈ l, ∃ j, jobAt s a = some j ∧ j.account = n) → v.accounts.get n = Account.reset .free
  regular  : ∀ n, (∀ a ∈ l, ∀ j, jobAt s a = some j → j.account = n → j.guest = false) →
    (∃ a ∈ l, ∃ j, jobAt s a = some j ∧ j.account = n) → v.accounts.get n = { s.accounts.get n with
      balance := (v.accounts.get n).balance, holdsTotal := (v.accounts.get n).holdsTotal
      openJobs := (v.accounts.get n).openJobs, changed := true }


theorem ClosedOut.nil (s : State) : ClosedOut [] s s where
  frame := rfl
  stations _ _ := rfl
  journal := ⟨[], by simp, rfl, nofun⟩
  nextSeq := rfl
  meters _ _ := rfl
  writeOff := nofun
  plans _ := rfl
  notices := by simp
  spared _ _ := rfl
  guest _ _ h := by simp at h
  regular _ _ h := by simp at h

/-- A record of a job among several that none of the later ones is on is that of the first. -/
theorem account_of_first {s : State} {a : Addr} {l : List Addr} {j : Job} {n : AccountNo} (hj : jobAt s a = some j)
    (named : ∃ b ∈ a :: l, ∃ k, jobAt s b = some k ∧ k.account = n)
    (later : ¬ ∃ b ∈ l, ∃ k, jobAt s b = some k ∧ k.account = n) : j.account = n := by
  obtain ⟨b, hb, k, hk, on⟩ := named
  rcases List.mem_cons.1 hb with rfl | hb
  · rw [hj] at hk
    cases hk
    exact on
  · exact absurd ⟨b, hb, k, hk, on⟩ later

/-- One more close, before the others. -/
theorem ClosedOut.cons {s v : State} {a : Addr} {l : List Addr} {j : Job} (hj : jobAt s a = some j) (new : a ∉ l)
    (before : ∀ b ∈ l, jobAt (closed s a .controllerReset j) b = jobAt s b)
    (h : ClosedOut l (closed s a .controllerReset j) v) : ClosedOut (a :: l) s v where
  frame := by
    rw [h.frame]
    simp only [closed, List.length_cons, Nat.sub_sub, Nat.add_comm 1]
  stations b hb := by
    obtain ⟨ne, out⟩ : b ≠ a ∧ b ∉ l := by simpa using hb
    rw [h.stations b out, closed_stations_of_ne _ _ ne]
  journal := by
    obtain ⟨added, journal, length, records⟩ := h.journal
    obtain ⟨b, written, _, why, _⟩ := closed_journal s a .controllerReset j
    refine ⟨⟨s.nextSeq, .job b⟩ :: added, ?_, by rw [List.length_cons, List.length_cons, length],
      List.forall_mem_cons.2 ⟨⟨b, rfl, why⟩, records⟩⟩
    rw [journal, written, List.append_assoc, List.singleton_append]
  nextSeq := h.nextSeq
  meters b hb := by
    obtain ⟨ne, out⟩ : b ≠ a ∧ b ∉ l := by simpa using hb
    rw [h.meters b out, closed_meters_of_ne _ _ ne]
  writeOff b hb k hk := by
    by_cases same : b = a
    · subst same
      rw [hj] at hk
      cases hk
      rw [h.meters b new, closed_meters_self]
    · have later : b ∈ l := (List.mem_cons.1 hb).resolve_left same
      rw [h.writeOff b later k ((jobAt_closed_of_ne _ _ same).trans hk), closed_meters_of_ne _ _ same]
  plans p := (h.plans p).trans (closed_plans ..)
  notices := by
    have queued : (closed s a .controllerReset j).notices = if (s.stations.get a).state = .jammed
        then placeIn (.stationStatus a) s.notices else s.notices := rfl
    have others : (l.filter fun b => ((closed s a .controllerReset j).stations.get b).state == .jammed
        && !(closed s a .controllerReset j).notices.contains (.stationStatus b))
        = l.filter fun b => (s.stations.get b).state == .jammed && !s.notices.contains (.stationStatus b) := by
      refine List.filter_congr fun b hb => ?_
      have ne : b ≠ a := ne_of_mem_of_not_mem hb new
      have still : (closed s a .controllerReset j).notices.contains (.stationStatus b)
          = s.notices.contains (.stationStatus b) := by
        rw [queued, placeIn_stationStatus]
        split_ifs <;> simp [ne]
      rw [closed_stations_of_ne _ _ ne, still]
    rw [h.notices, others, queued, placeIn_stationStatus]
    by_cases jammed : (s.stations.get a).state = .jammed <;>
      by_cases listed : NoticeEntry.stationStatus a ∈ s.notices <;> simp [jammed, listed]
  spared n none := by
    obtain ⟨first, rest⟩ := List.forall_mem_cons.1 none
    rw [h.spared n fun b hb k hk => rest b hb k (by rwa [before b hb] at hk), closed_account_of_ne _ (first j hj)]
  guest n all named := by
    obtain ⟨first, rest⟩ := List.forall_mem_cons.1 all
    by_cases later : ∃ b ∈ l, ∃ k, jobAt s b = some k ∧ k.account = n
    · refine h.guest n (fun b hb k hk => rest b hb k (by rwa [before b hb] at hk)) ?_
      obtain ⟨b, hb, k, hk, on⟩ := later
      exact ⟨b, hb, k, (before b hb).trans hk, on⟩
    · have now := account_of_first hj named later
      rw [h.spared n fun b hb k hk on => later ⟨b, hb, k, by rwa [before b hb] at hk, on⟩, ← now, closed_account,
        if_pos (first j hj now)]
  regular n all named := by
    obtain ⟨first, rest⟩ := List.forall_mem_cons.1 all
    by_cases later : ∃ b ∈ l, ∃ k, jobAt s b = some k ∧ k.account = n
    · have closedLater := h.regular n (fun b hb k hk => rest b hb k (by rwa [before b hb] at hk)) (by
        obtain ⟨b, hb, k, hk, on⟩ := later
        exact ⟨b, hb, k, (before b hb).trans hk, on⟩)
      by_cases now : j.account = n
      · obtain ⟨_, _, _, settled⟩ := closed_account_of_regular s a .controllerReset (first j hj now)
        rw [← now] at closedLater ⊢
        rw [settled] at closedLater
        exact closedLater
      · rw [closed_account_of_ne _ now] at closedLater
        exact closedLater
    · have now := account_of_first hj named later
      obtain ⟨_, _, _, settled⟩ := closed_account_of_regular s a .controllerReset (first j hj now)
      rw [h.spared n fun b hb k hk on => later ⟨b, hb, k, by rwa [before b hb] at hk, on⟩, ← now, settled]

theorem closedOut_foldl {l : List Addr} (once : l.Nodup) {s : State} (jobs : ∀ a ∈ l, jobAt s a ≠ none) :
    ClosedOut l s (l.foldl closeNow s) := by
  induction l generalizing s with
  | nil => exact .nil s
  | cons a l ih =>
    obtain ⟨new, once⟩ := List.nodup_cons.1 once
    obtain ⟨first, rest⟩ := List.forall_mem_cons.1 jobs
    obtain ⟨j, hj⟩ := Option.ne_none_iff_exists'.1 first
    rw [List.foldl_cons, closeNow_of_job hj]
    have before (b : Addr) (hb : b ∈ l) : jobAt (closed s a .controllerReset j) b = jobAt s b :=
      jobAt_closed_of_ne _ _ (ne_of_mem_of_not_mem hb new)
    exact (ih once fun b hb => (before b hb).symm ▸ rest b hb).cons hj new before

/-! ### RESET FLOOR -/

/-- The stations with an open job, in the free order of a reset (R63; log entry 2). -/
def closeOrder (s : State) : List Addr := freeOrder s (openAddrs s)

theorem openAddrs_nodup (s : State) : (openAddrs s).Nodup := allAddrs_nodup.filter _

theorem mem_closeOrder {s : State} (law : StationLaw s) {a : Addr} : a ∈ closeOrder s ↔ jobAt s a ≠ none := by
  rw [closeOrder, mem_freeOrder, openAddrs, List.mem_filter, ← law.job, Option.isSome_iff_ne_none]
  exact and_iff_right (mem_allAddrs a)

theorem closeOrder_length {s : State} (law : StationLaw s) : (closeOrder s).length = (openJobs s).length := by
  have filtered : openAddrs s = allAddrs.filter fun a => (jobAt s a).isSome :=
    List.filter_congr fun a _ => (law.job a).symm
  rw [closeOrder, (freeOrder_perm s _).length_eq, filtered, openJobs, List.length_filterMap_eq_countP,
    List.countP_eq_length_filter]

/-- The closes of a reset, in the words of the statements (R63). -/
theorem closeAll_eq (s : State) : ∃ k, closeAll { s with window := none } =
    { (closeOrder s).foldl closeNow s with window := none, freeTick := k } := by
  obtain ⟨k, ordered⟩ := tickOrder_eq { s with window := none } (openAddrs s)
  refine ⟨k, ?_⟩
  have each : (fun (s : State) a => (closeJob s a .controllerReset false).1) = closeNow :=
    funext fun s => funext fun a => closeJob_eq_closeNow s a
  rw [← closeNow_foldl_with, closeAll, each]
  exact congrArg ((closeOrder s).foldl closeNow) ordered

theorem freeChannels_eq (s : State) : ∃ ch, freeChannels s = { s with waitQueue := [], channels := ch }
    ∧ ∀ c, ch.get c = { s.channels.get c with busy := none } := by
  refine ⟨_, rfl, fun c => ?_⟩
  simp only [setChannel_channels, Table.get_set]
  fin_cases c <;> rfl

/-- A law that every move keeps is kept by any number of moves. -/
theorem Moves.keep {P : State → Prop} (each : ∀ s t, Move s t → P s → P t) {s t : State} (h : Moves s t) (hs : P s) :
    P t := by
  induction h with
  | refl => exact hs
  | tail _ m ih => exact each _ _ m ih

/-- The floor taken down with every job closed: nothing is claimed on any record or plan (R63). -/
theorem accounts_of_floorDown {s : State} (law : AccountLaw s) :
    (∀ p, ((floorDown (freeChannels (closeAll { s with window := none }))).plans.get p).captures = 0)
      ∧ ∀ n, ((floorDown (freeChannels (closeAll { s with window := none }))).accounts.get n).holdsTotal = 0
        ∧ ((floorDown (freeChannels (closeAll { s with window := none }))).accounts.get n).openJobs = 0 := by
  have closedWindow : Moves s { s with window := none } := (Moves.refl s).links
  have after := closedWindow.resetFloor.keep (fun _ _ => AccountLaw.move) law
  generalize hu : floorDown (freeChannels (closeAll { s with window := none })) = u at after ⊢
  have none : openJobs u = [] := by
    have stations (a : Addr) : u.stations.get a = Station.reset := by rw [← hu]; exact Table.get_fill _ a
    simp [openJobs, jobAt, stations, Station.reset]
  refine ⟨fun p => ?_, fun n => ⟨?_, ?_⟩⟩
  · rw [after.captures, none]; rfl
  · rw [after.holds, jobsOn, none]; rfl
  · rw [after.count, jobsOn, none]; rfl

/-- Settles O4: the pin and RESET FULL field by field, and RESET FLOOR as the closes of `closedOut_foldl`. -/
theorem resetsLeaveTheirTable : Obligations.ResetsLeaveTheirTable := by
  intro s c req
  refine ⟨exec_low, rfl, rfl, fun low => ⟨exec_resetFull low req, fun law => ?_⟩⟩
  let order := closeOrder s
  let v := order.foldl closeNow s
  have mem {a : Addr} : a ∈ order ↔ jobAt s a ≠ none := mem_closeOrder law.stations
  have length : order.length = (openJobs s).length := closeOrder_length law.stations
  have once : order.Nodup := (freeOrder_perm s _).nodup_iff.2 (openAddrs_nodup s)
  have out : ClosedOut order s v := closedOut_foldl once fun a => mem.1
  obtain ⟨k, all⟩ := closeAll_eq s
  obtain ⟨ch, freed, channels⟩ := freeChannels_eq (closeAll { s with window := none })
  let t : State := { s with
    accounts := v.accounts, channels := ch, waitQueue := [], plans := v.plans, journal := v.journal
    reservations := 0, nextSeq := v.nextSeq, meters := v.meters, freeTick := k, notices := v.notices, window := none
    stations := Table.fill 16 Station.reset, presence := Table.fill 16 PresenceRecord.reset
    sweep := .running, awaiting := .sweepOne 0, roundPos := none, lastProbed := none, floorTx := [.probe 0 85] }
  have released : s.reservations - order.length = 0 := by rw [length, law.reserved, Nat.sub_self]
  have frame := out.frame
  rw [released] at frame
  have result : floorDown (freeChannels (closeAll { s with window := none })) = t := by
    rw [freed, all]
    conv_lhs => rw [show order.foldl closeNow s = v from rfl, frame]
    rfl
  have books (law : AccountLaw s) := result ▸ accounts_of_floorDown law
  have guests (law : AccountLaw s) (a : Addr) (j : Job) (hj : jobAt s a = some j) :
      j.guest = decide (480 ≤ j.account.val) :=
    law.flag j (List.mem_filterMap.2 ⟨a, mem_allAddrs a, hj⟩)
  have same (law : AccountLaw s) {a b : Addr} {j k : Job} (hj : jobAt s a = some j) (hk : jobAt s b = some k)
      (on : k.account = j.account) : k.guest = j.guest := by
    rw [guests law a j hj, guests law b k hk, on]
  refine ⟨t, request_answered (k := .reset) (f := fun s => accept .none (floorDown (freeChannels (closeAll s)))) low
    (congrArg (accept .none) result), rfl, fun c => ?_, length ▸ out.journal, fun a none => ?_, fun n none => ?_,
    out.plans, fun law p => (books law).1 p, length ▸ out.nextSeq, ?_, ?_, fun a j hj => ?_⟩
  · rw [show t.channels = ch from rfl, channels, all]
    conv_lhs => rw [show order.foldl closeNow s = v from rfl, frame]
  · exact out.meters a fun ha => mem.1 ha none
  · refine out.spared n fun a _ j hj on => ?_
    have listed : j ∈ jobsOn s n :=
      List.mem_filter.2 ⟨List.mem_filterMap.2 ⟨a, mem_allAddrs a, hj⟩, by simpa using on⟩
    rw [none] at listed
    cases listed
  · refine ⟨_, out.notices, once.filter _, fun a => ?_⟩
    simp only [List.mem_filter, mem, Bool.and_eq_true, beq_iff_eq, Bool.not_eq_true', List.contains_eq_mem,
      decide_eq_false_iff_not]
    refine and_iff_right_of_imp fun ⟨jammed, _⟩ => ?_
    rw [← Option.isSome_iff_ne_none, law.stations.job, jammed]
    rfl
  · exact ⟨order, once, fun a => mem, rfl, rfl, rfl, rfl, rfl, rfl⟩
  · have ha : a ∈ order := mem.2 (by rw [hj]; exact nofun)
    refine ⟨out.writeOff a ha j hj, fun law => ⟨fun guest => ?_, fun regular => ?_⟩⟩
    · exact out.guest _ (fun b _ k hk on => (same law hj hk on).trans guest) ⟨a, ha, j, hj, rfl⟩
    · have kept := out.regular _ (fun b _ k hk on => (same law hj hk on).trans regular) ⟨a, ha, j, hj, rfl⟩
      obtain ⟨holds, count⟩ := (books law).2 j.account
      refine Eq.trans kept ?_
      rw [show (v.accounts.get j.account).holdsTotal = 0 from holds,
        show (v.accounts.get j.account).openJobs = 0 from count]

end Sys2Proof.Machine

namespace Sys2Proof.Machine

set_option Elab.async false

/-! ## SET MODE: authorizations ended, rest states taken (R41, R44, R139, R142) -/

/-! ### Every authorization ended, with nobody waiting -/

/-- An authorization given up with nobody waiting: at most a channel becomes FREE, its generation kept (R32). -/
theorem releaseAuthorization_of_quiet {s : State} (empty : s.waitQueue = []) (a : Addr) :
    ∃ ch, releaseAuthorization s a = { s with channels := ch }
      ∧ ∀ c, (ch.get c).generation = (s.channels.get c).generation := by
  cases held : channelOf s a with
  | none =>
    refine ⟨s.channels, ?_, fun _ => rfl⟩
    rw [releaseAuthorization_of_none held, empty, List.filter_nil, ← empty]
  | some c =>
    refine ⟨_, releaseAuthorization_of_empty held empty, fun d => ?_⟩
    rw [Table.get_set]
    split
    next e => rw [e]
    next => rfl

/-- An authorization ended with DECLINED MODE, nobody waiting, table by table (R41, R142). -/
theorem declineToSlot_of_quiet {s : State} (empty : s.waitQueue = []) (a : Addr) (why : DeclineReason) :
    ∃ ch, declineToSlot s a why = { s with
        channels := ch, awaiting := forgot s.awaiting a [.cardResult]
        stations := s.stations.set a { s.stations.get a with state := restState s a, authCard := none, timer := none }
        presence := s.presence.set a { s.presence.get a with line := false, cardResult := some (.declined why) } }
      ∧ ∀ c, (ch.get c).generation = (s.channels.get c).generation := by
  obtain ⟨ch, released, generations⟩ := releaseAuthorization_of_quiet empty a
  refine ⟨ch, ?_, generations⟩
  have low : decide (restState s a = .active ∨ restState s a = .held ∨ restState s a = .jammed
      ∨ restState s a = .closing) = false := by
    have rest := atRest_restState s a
    rw [decide_eq_false_iff_not]
    rintro (e | e | e | e) <;> rw [e] at rest <;> cases rest
  rw [declineToSlot_eq_slotted]
  simp only [slotted, unauthorized, seat, released, low, Table.get_set_self, Table.set_set]

/-- The authorizations of the stations `l` ended with DECLINED MODE, from `s` to `t`, nobody waiting (R41, R142). -/
structure EndedOut (l : List Addr) (s t : State) : Prop where
  frame      : t = { s with
    channels := t.channels, stations := t.stations, presence := t.presence, awaiting := t.awaiting }
  generation : ∀ c, (t.channels.get c).generation = (s.channels.get c).generation
  ended      : ∀ a ∈ l, t.stations.get a =
      { s.stations.get a with state := restState s a, authCard := none, timer := none }
    ∧ t.presence.get a = { s.presence.get a with line := false, cardResult := some (.declined .mode) }
  others     : ∀ a, a ∉ l → t.stations.get a = s.stations.get a ∧ t.presence.get a = s.presence.get a
  kept       : (∀ a ∈ l, s.awaiting ≠ .poll a (some .cardResult)) → t.awaiting = s.awaiting
  dropped    : ∀ a ∈ l, s.awaiting = .poll a (some .cardResult) → t.awaiting = .poll a none

theorem EndedOut.nil (s : State) : EndedOut [] s s where
  frame := rfl
  generation _ := rfl
  ended := nofun
  others _ _ := ⟨rfl, rfl⟩
  kept _ := rfl
  dropped := nofun

/-- One more authorization, before the others. -/
theorem EndedOut.cons {s t : State} {a : Addr} {l : List Addr} (empty : s.waitQueue = []) (new : a ∉ l)
    (h : EndedOut l (declineToSlot s a .mode) t) : EndedOut (a :: l) s t := by
  obtain ⟨ch, one, generations⟩ := declineToSlot_of_quiet empty a .mode
  rw [one] at h
  have before {b : Addr} (ne : b ≠ a) := And.intro (Table.get_set_ne s.stations
    { s.stations.get a with state := restState s a, authCard := none, timer := none } ne.symm)
    (Table.get_set_ne s.presence
      { s.presence.get a with line := false, cardResult := some (.declined .mode) } ne.symm)
  have awaits (b : Addr) (ne : b ≠ a) (w : s.awaiting = .poll b (some .cardResult)) :
      forgot s.awaiting a [.cardResult] = s.awaiting := forgot_of_ne fun m _ e => by
    rw [w] at e
    cases e
    exact ne rfl
  refine ⟨h.frame, fun c => (h.generation c).trans (generations c), fun b hb => ?_, fun b hb => ?_, fun none => ?_,
    fun b hb sent => ?_⟩
  · by_cases same : b = a
    · subst same
      obtain ⟨station, presence⟩ := h.others b new
      exact ⟨station.trans (Table.get_set_self ..), presence.trans (Table.get_set_self ..)⟩
    · obtain ⟨station, presence⟩ := h.ended b ((List.mem_cons.1 hb).resolve_left same)
      obtain ⟨station', presence'⟩ := before same
      rw [station, presence, station', presence']
      exact ⟨congrArg (fun st => { s.stations.get b with state := st, authCard := Option.none, timer := Option.none })
        (restState_congr (congrArg PresenceRecord.state presence')), rfl⟩
  · obtain ⟨ne, out⟩ : b ≠ a ∧ b ∉ l := by simpa using hb
    obtain ⟨station, presence⟩ := h.others b out
    exact ⟨station.trans (before ne).1, presence.trans (before ne).2⟩
  · obtain ⟨first, rest⟩ := List.forall_mem_cons.1 none
    have same : forgot s.awaiting a [.cardResult] = s.awaiting := forgot_of_ne (by simpa using first)
    exact (h.kept fun b hb => same.symm ▸ rest b hb).trans same
  · by_cases same : b = a
    · subst same
      have now : forgot s.awaiting b [.cardResult] = .poll b Option.none := by
        rw [sent, forgot_poll, if_pos (by simp)]
      exact (h.kept fun c _ e => by rw [now] at e; cases e).trans now
    · exact h.dropped b ((List.mem_cons.1 hb).resolve_left same) ((awaits b same sent).trans sent)

theorem endedOut_foldl {l : List Addr} (once : l.Nodup) {s : State} (empty : s.waitQueue = []) :
    EndedOut l s (l.foldl (fun s a => declineToSlot s a .mode) s) := by
  induction l generalizing s with
  | nil => exact .nil s
  | cons a l ih =>
    obtain ⟨new, once⟩ := List.nodup_cons.1 once
    obtain ⟨ch, one, _⟩ := declineToSlot_of_quiet empty a .mode
    exact (ih once (s := declineToSlot s a .mode) (by rw [one]; exact empty)).cons empty new

/-! ### Rest states taken (R44, R139) -/

/-- The stations of `l` at rest take their rest state, from `v` to `t` (R44, R142). -/
structure Rested (l : List Addr) (v t : State) : Prop where
  frame  : t = { v with stations := t.stations, presence := t.presence }
  rests  : ∀ a ∈ l, atRest (v.stations.get a).state = true →
    t.stations.get a = { v.stations.get a with state := restState v a, timer := none }
      ∧ t.presence.get a = { v.presence.get a with line := false }
  others : ∀ a, a ∉ l ∨ atRest (v.stations.get a).state = false →
    t.stations.get a = v.stations.get a ∧ t.presence.get a = v.presence.get a

theorem takeRest_eq (s : State) (a : Addr) : takeRest s a =
    if atRest (s.stations.get a).state then { s with
      stations := s.stations.set a { s.stations.get a with state := restState s a, timer := none }
      presence := s.presence.set a { s.presence.get a with line := false } }
    else s := by
  simp only [takeRest, enter, lineHigh_of_atRest (atRest_restState s a)]
  rfl

theorem Rested.refl (v : State) : Rested [] v v := ⟨rfl, nofun, fun _ _ => ⟨rfl, rfl⟩⟩

/-- One more station, before the others. -/
theorem Rested.cons {v t : State} {a : Addr} {l : List Addr} (new : a ∉ l) (h : Rested l (takeRest v a) t) :
    Rested (a :: l) v t := by
  rw [takeRest_eq] at h
  by_cases rest : atRest (v.stations.get a).state = true
  · rw [if_pos rest] at h
    have before {b : Addr} (ne : b ≠ a) := And.intro (Table.get_set_ne v.stations
      { v.stations.get a with state := restState v a, timer := none } ne.symm)
      (Table.get_set_ne v.presence { v.presence.get a with line := false } ne.symm)
    refine ⟨h.frame, fun b hb atRest => ?_, fun b hb => ?_⟩
    · by_cases same : b = a
      · subst same
        obtain ⟨station, presence⟩ := h.others b (.inl new)
        exact ⟨station.trans (Table.get_set_self ..), presence.trans (Table.get_set_self ..)⟩
      · obtain ⟨station', presence'⟩ := before same
        obtain ⟨station, presence⟩ := h.rests b ((List.mem_cons.1 hb).resolve_left same)
          ((congrArg (fun r => Machine.atRest (Station.state r)) station').trans atRest)
        rw [station, presence, station', presence']
        exact ⟨congrArg (fun st => { v.stations.get b with state := st, timer := none })
          (restState_congr (congrArg PresenceRecord.state presence')), rfl⟩
    · have ne : b ≠ a := by
        rintro rfl
        exact hb.elim (fun out => out List.mem_cons_self) fun e => by rw [rest] at e; cases e
      obtain ⟨station', presence'⟩ := before ne
      obtain ⟨station, presence⟩ := h.others b (hb.imp (fun out m => out (List.mem_cons_of_mem _ m))
        ((congrArg (fun r => Machine.atRest (Station.state r)) station').trans ·))
      exact ⟨station.trans station', presence.trans presence'⟩
  · rw [if_neg rest] at h
    refine ⟨h.frame, fun b hb atRest => h.rests b ((List.mem_cons.1 hb).resolve_left ?_) atRest, fun b hb => h.others b ?_⟩
    · rintro rfl
      exact rest atRest
    · exact hb.imp_left fun out m => out (List.mem_cons_of_mem _ m)

theorem rested_foldl {l : List Addr} (once : l.Nodup) (v : State) : Rested l v (l.foldl takeRest v) := by
  induction l generalizing v with
  | nil => exact .refl v
  | cons a l ih =>
    obtain ⟨new, once⟩ := List.nodup_cons.1 once
    exact (ih once (takeRest v a)).cons new

end Sys2Proof.Machine

namespace Sys2Proof.Machine

set_option Elab.async false

/-! ## SET MODE: forced closes with their retries (R57, R58, R85, R89, R143) -/

/-! ### Retries -/

/-- From `s` to `t` the station is as it was, or a HELD one with a job on an account of `P` has gone to ACTIVE with
another hold (R86). -/
def Lifted (P : AccountNo → Prop) (s t : State) (a : Addr) : Prop :=
  (t.stations.get a = s.stations.get a ∧ t.presence.get a = s.presence.get a)
    ∨ (s.stations.get a).state = .held ∧ (t.stations.get a).state = .active
      ∧ (t.presence.get a).state = (s.presence.get a).state
      ∧ ∃ j h, jobAt s a = some j ∧ P j.account ∧ jobAt t a = some { j with hold := h }

section
variable {P Q : AccountNo → Prop} {s t u : State} {a : Addr} {j : Job}

theorem Lifted.mono (h : Lifted P s t a) (sub : ∀ n, P n → Q n) : Lifted Q s t a := by
  obtain same | ⟨held, active, presence, j, hold, before, on, after⟩ := h
  · exact .inl same
  · exact .inr ⟨held, active, presence, j, hold, before, sub _ on, after⟩

/-- Only HELD stations change. -/
theorem Lifted.same (h : Lifted P s t a) (other : (s.stations.get a).state ≠ .held) :
    t.stations.get a = s.stations.get a ∧ t.presence.get a = s.presence.get a :=
  h.resolve_right fun ⟨held, _⟩ => other held

theorem Lifted.presence (h : Lifted P s t a) : (t.presence.get a).state = (s.presence.get a).state := by
  obtain ⟨_, same⟩ | ⟨_, _, same, _⟩ := h
  · rw [same]
  · exact same

/-- A retry changes nothing of a job but its hold. -/
theorem Lifted.job (h : Lifted P s t a) (hj : jobAt s a = some j) : ∃ hold, jobAt t a = some { j with hold := hold } := by
  obtain ⟨same, _⟩ | ⟨_, _, _, k, hold, before, _, after⟩ := h
  · exact ⟨j.hold, by rw [jobAt, same]; exact hj⟩
  · rw [hj] at before
    cases before
    exact ⟨hold, after⟩

theorem Lifted.trans (h : Lifted P s t a) (i : Lifted Q t u a) (sub : ∀ n, Q n → P n) : Lifted P s u a := by
  obtain ⟨station, presence⟩ | ⟨held, active, presence, j, hold, before, on, after⟩ := h
  · rw [Lifted, ← station, ← presence, show jobAt s a = jobAt t a by rw [jobAt, jobAt, station]]
    exact i.mono sub
  · obtain ⟨station', presence'⟩ := i.same (by rw [active]; exact nofun)
    refine .inr ⟨held, by rw [station', active], by rw [presence', presence], j, hold, before, on, ?_⟩
    rw [jobAt, station']
    exact after

end

/-- The retries on account `n`, from `s` to `t`: what they may change (R85, R86). -/
structure Retried (n : AccountNo) (s t : State) : Prop where
  frame    : t = { s with
    accounts := t.accounts, awaiting := t.awaiting, stations := t.stations, presence := t.presence }
  accounts : ∀ k, k ≠ n → t.accounts.get k = s.accounts.get k
  stations : ∀ a, Lifted (· = n) s t a

theorem Retried.refl (n : AccountNo) (s : State) : Retried n s s := ⟨rfl, fun _ _ => rfl, fun _ => .inl ⟨rfl, rfl⟩⟩

theorem Retried.trans {n : AccountNo} {s t u : State} (h : Retried n s t) (i : Retried n t u) : Retried n s u where
  frame := by rw [i.frame, h.frame]
  accounts k ne := (i.accounts k ne).trans (h.accounts k ne)
  stations a := (h.stations a).trans (i.stations a) fun _ => id

theorem idled_job (k : PerTimer Nat) (r : Station) : (idled k r).job = r.job := by
  rw [idled_eq]
  split <;> rfl

theorem retried_retryStation {n : AccountNo} {s : State} {a : Addr} (on : jobOn s n a = true) :
    Retried n s (retryStation s a) := by
  obtain e | ⟨j, w, held, hj, _, _, e⟩ := retryStation_cases s a <;> rw [e]
  · exact .refl n s
  · have account : j.account = n := by simpa [jobOn, show (s.stations.get a).job = some j from hj] using on
    refine ⟨rfl, fun k ne => Table.get_set_ne _ _ (account ▸ ne.symm), fun b => ?_⟩
    by_cases same : b = a
    · subst same
      have seated : (resumed s b j).stations.get b = idled s.timers { s.stations.get b with
          state := .active, job := some { j with hold := j.hold + (offer s j).toNat }, wanted := none
          timer := none } := Table.get_set_self ..
      refine .inr ⟨held, ?_, ?_, j, j.hold + (offer s j).toNat, hj, account, ?_⟩
      · rw [seated, idled_state]
      · simp [resumed]
      · rw [jobAt, seated, idled_job]
    · exact .inl ⟨Table.get_set_ne _ _ (Ne.symm same), Table.get_set_ne _ _ (Ne.symm same)⟩

theorem retried_retryAccount (n : AccountNo) (s : State) : Retried n s (retryAccount s n) := by
  rw [retryAccount]
  generalize allAddrs = l
  induction l generalizing s with
  | nil => exact .refl n s
  | cons a l ih =>
    rw [List.foldl_cons]
    refine Retried.trans ?_ (ih _)
    split
    next on => exact retried_retryStation on
    next => exact .refl n s

theorem retried_settled (s : State) (a : Addr) (why : EndReason) (j : Job) :
    Retried j.account (closed s a why j) (settled s a why j) := by
  rw [settled]
  split
  · exact retried_retryAccount ..
  · exact .refl ..

/-! ### What forced closes come to -/

/-- A forced job that waits for its sheets in flight (R55). -/
def Drains (s : State) (a : Addr) (j : Job) : Prop :=
  ((s.stations.get a).state = .active ∨ (s.stations.get a).state = .held) ∧ j.inFlight ≠ []

/-- From `s` to `v` the station has gone to CLOSING with FORCED pending and its drain timer (R55). -/
structure Draining (s v : State) (a : Addr) (j : Job) : Prop where
  state  : (v.stations.get a).state = .closing
  ending : (v.stations.get a).pendingEnd = some .forced
  timer  : (v.stations.get a).timer = some ⟨.drain, s.timers.drain⟩
  job    : (jobAt v a).map Job.inFlight = some j.inFlight
  meters : v.meters.get a = s.meters.get a

/-- From `s` to `v` the job of the station was closed with FORCED (R57, R89, R93). -/
structure ForceClosed (s v : State) (a : Addr) (j : Job) : Prop where
  state  : (v.stations.get a).state = restState s a
  job    : jobAt v a = none
  meters : v.meters.get a = { s.meters.get a with
    writtenOff := rolled (s.meters.get a).writtenOff (j.highest - j.confirmed) }
  note   : ((v.presence.get a).jobClosed.map fun c => (c.reason, c.writtenOff))
    = some (.forced, j.writtenOff + (j.highest - j.confirmed))

/-- The FORCED JOB record of a job (R92, R121). -/
def ForcedRecord (a : Addr) (j : Job) (r : JournalRecord) : Prop :=
  ∃ b : JobRecord, r.body = .job b ∧ b.station = a ∧ b.reason = .forced
    ∧ b.writtenOff = j.writtenOff + (j.highest - j.confirmed)

/-- One of the jobs of `l` is on the account. -/
def OnOne (s : State) (l : List Addr) (n : AccountNo) : Prop := ∃ a ∈ l, ∃ j, jobAt s a = some j ∧ j.account = n

/-- The jobs of the stations `l` closed by force, from `s` to `v`: what becomes of each table. -/
structure ForcedOut (l : List Addr) (s v : State) : Prop where
  frame    : v = { s with
    accounts := v.accounts, plans := v.plans, journal := v.journal, nextSeq := v.nextSeq
    reservations := v.reservations, meters := v.meters, stations := v.stations, presence := v.presence
    awaiting := v.awaiting, notices := v.notices }
  present  : ∀ a, (v.presence.get a).state = (s.presence.get a).state
  journal  : ∃ added : List JournalRecord, v.journal = s.journal ++ added
    ∧ ∀ a ∈ l, ∀ j, jobAt s a = some j → ¬ Drains s a j → ∃ r ∈ added, ForcedRecord a j r
  accounts : ∀ n, ¬ OnOne s l n → v.accounts.get n = s.accounts.get n
  plans    : ∀ p, { v.plans.get p with captures := 0 } = { s.plans.get p with captures := 0 }
  meters   : ∀ a, a ∉ l → v.meters.get a = s.meters.get a
  others   : ∀ a, a ∉ l → Lifted (OnOne s l) s v a
  drained  : ∀ a ∈ l, ∀ j, jobAt s a = some j → Drains s a j → Draining s v a j
  closed   : ∀ a ∈ l, ∀ j, jobAt s a = some j → ¬ Drains s a j → ForceClosed s v a j

theorem ForcedOut.nil (s : State) : ForcedOut [] s s where
  frame := rfl
  present _ := rfl
  journal := ⟨[], by simp, nofun⟩
  accounts _ _ := rfl
  plans _ := rfl
  meters _ _ := rfl
  others _ _ := .inl ⟨rfl, rfl⟩
  drained := nofun
  closed := nofun

/-- A drain after a forced close from ACTIVE or HELD changes the station alone (R55). -/
theorem forcedOut_draining {s : State} {a : Addr} {j : Job} (hj : jobAt s a = some j) (drains : Drains s a j) :
    ForcedOut [a] s (draining s a .forced) where
  frame := rfl
  present b := by
    simp only [draining, seat, Table.get_set]
    split
    next e => rw [e]
    next => rfl
  journal := ⟨[], by simp [draining, seat], fun b hb k hk stays => by
    cases List.mem_singleton.1 hb
    rw [hj] at hk
    cases hk
    exact absurd drains stays⟩
  accounts _ _ := rfl
  plans _ := rfl
  meters _ _ := rfl
  others b hb := .inl ⟨Table.get_set_ne _ _ (Ne.symm (List.mem_singleton.not.1 hb)),
    Table.get_set_ne _ _ (Ne.symm (List.mem_singleton.not.1 hb))⟩
  drained b hb k hk _ := by
    obtain rfl : b = a := List.mem_singleton.1 hb
    have seated := seat_station s b { s.stations.get b with
      state := .closing, pendingEnd := some .forced, wanted := none, timer := some ⟨.drain, s.timers.drain⟩ }
    refine ⟨congrArg Station.state seated, congrArg Station.pendingEnd seated, congrArg Station.timer seated, ?_, rfl⟩
    rw [show jobAt (draining s b .forced) b = some k from (congrArg Station.job seated).trans hk]
    rfl
  closed b hb k hk stays := by
    cases List.mem_singleton.1 hb
    rw [hj] at hk
    cases hk
    exact absurd drains stays

/-- A forced close at once, with its retries and its JOB CLOSED (R57, R89). -/
theorem forcedOut_closedAway {s : State} {a : Addr} {j : Job} (hj : jobAt s a = some j) (stays : ¬ Drains s a j) :
    ForcedOut [a] s (closedAway s a .forced j) := by
  have off : (closed s a .forced j).stations.get a = { s.stations.get a with
      state := restState s a, job := none, remembered := none, pendingEnd := none, wanted := none, timer := none } :=
    Table.get_set_self ..
  have one (P : Addr → Job → Prop) (h : P a j) : ∀ b ∈ [a], ∀ k, jobAt s b = some k → P b k := by
    intro b hb k hk
    cases List.mem_singleton.1 hb
    rw [hj] at hk
    cases hk
    exact h
  have retried := retried_settled s a .forced j
  have quiet := (retried.stations a).same (by
    have rest := atRest_restState s a
    rw [off]
    intro held
    rw [show restState s a = .held from held] at rest
    cases rest)
  have present (b : Addr) : ((settled s a .forced j).presence.get b).state = (s.presence.get b).state := by
    refine (retried.stations b).presence.trans ?_
    simp only [closed, Table.get_set]
    split
    next e => rw [e]
    next => rfl
  have on : OnOne s [a] j.account := ⟨a, List.mem_singleton_self a, j, hj, rfl⟩
  generalize hr : settled s a .forced j = r at retried quiet present
  have away : closedAway s a .forced j = closedSlot r a (closedNote s .forced j) := by rw [closedAway, hr]
  rw [away]
  have frame := retried.frame
  have journal : r.journal = (closed s a .forced j).journal := by rw [frame]
  have plans : r.plans = (closed s a .forced j).plans := by rw [frame]
  have meters : r.meters = (closed s a .forced j).meters := by rw [frame]
  have slot (b : Addr) (ne : b ≠ a) :
      (closedSlot r a (closedNote s .forced j)).presence.get b = r.presence.get b := Table.get_set_ne _ _ ne.symm
  refine {
    frame := ?_, present := fun b => ?_, journal := ?_, accounts := fun n none => ?_, plans := fun p => ?_
    meters := fun b hb => ?_, others := fun b hb => ?_
    drained := one (fun b k => Drains s b k → _) fun drains => absurd drains stays
    closed := one (fun b k => ¬ Drains s b k → _) fun _ => ⟨?_, ?_, ?_, ?_⟩ }
  · rw [frame]; rfl
  · rw [← present b]
    simp only [closedSlot, Table.get_set]
    split
    next e => rw [e]
    next => rfl
  · obtain ⟨b, written, station, reason, off⟩ := closed_journal s a .forced j
    refine ⟨[⟨s.nextSeq, .job b⟩], ?_, one (fun b k => ¬ Drains s b k → _) fun _ =>
      ⟨_, List.mem_singleton_self _, b, rfl, station, reason, off⟩⟩
    exact journal.trans written
  · have ne : j.account ≠ n := fun e => none (e ▸ on)
    exact (retried.accounts n ne.symm).trans (closed_account_of_ne _ ne)
  · exact (congrArg (fun q : Table Plan 8 => { q.get p with captures := 0 }) plans).trans (closed_plans s a .forced j p)
  · exact (congrArg (Table.get · b) meters).trans (closed_meters_of_ne .forced j (List.mem_singleton.not.1 hb))
  · have ne : b ≠ a := List.mem_singleton.not.1 hb
    have first : Lifted (OnOne s [a]) s (closed s a .forced j) b :=
      .inl ⟨closed_stations_of_ne _ _ ne, Table.get_set_ne _ _ ne.symm⟩
    refine (first.trans (retried.stations b) fun n e => e ▸ on).trans (Q := fun _ => False) (.inl ⟨rfl, slot b ne⟩) nofun
  · rw [show (closedSlot r a (closedNote s .forced j)).stations = r.stations from rfl, quiet.1, off]
  · rw [jobAt, show (closedSlot r a (closedNote s .forced j)).stations = r.stations from rfl, quiet.1, off]
  · exact (congrArg (Table.get · a) meters).trans (closed_meters_self s a .forced j)
  · simp [closedSlot, closedNote]

/-! ### One forced close, and all of them -/

/-- A station that a forced close changes: it has a job and is not in CLOSING (R142). -/
def Forceable (s : State) (a : Addr) : Prop := forceCloses (s.stations.get a).state = true ∧ jobAt s a ≠ none

theorem forcedNow_of_not {s : State} {a : Addr} (other : ¬ Forceable s a) : forcedNow s a = s := by
  unfold forcedNow
  split
  next j hj =>
    have still : forceCloses (s.stations.get a).state = false := by
      rw [← Bool.not_eq_true]
      exact fun forced => other ⟨forced, by rw [hj]; exact nofun⟩
    rw [forcedAway]
    cases state : (s.stations.get a).state with
    | active | held | jammed | detached => rw [state] at still; cases still
    | offline | disabled | idle | authorizing | closing => rfl
  next => rfl

theorem forcedOut_forcedNow {s : State} {a : Addr} (forced : Forceable s a) : ForcedOut [a] s (forcedNow s a) := by
  obtain ⟨closes, some⟩ := forced
  obtain ⟨j, hj⟩ := Option.ne_none_iff_exists'.1 some
  have now : forcedNow s a = forcedAway s a j := by rw [forcedNow, hj]
  rw [now, forcedAway]
  by_cases running : (s.stations.get a).state = .active ∨ (s.stations.get a).state = .held
  · rw [if_pos running, closingAway]
    split
    next empty => exact forcedOut_closedAway hj fun drains => drains.2 empty
    next sheets => exact forcedOut_draining hj ⟨running, sheets⟩
  · rw [if_neg running, if_pos]
    · exact forcedOut_closedAway hj fun drains => running drains.1
    · cases state : (s.stations.get a).state with
      | jammed => exact .inl rfl
      | detached => exact .inr rfl
      | active => exact absurd (.inl state) running
      | held => exact absurd (.inr state) running
      | offline | disabled | idle | authorizing | closing => rw [state] at closes; cases closes

theorem forceClose_eq_forcedNow (s : State) (a : Addr) : forceClose s a = forcedNow s a := by
  cases hj : jobAt s a with
  | some j => rw [forceClose_eq_forcedAway hj, forcedNow, hj]
  | none =>
    have job : (s.stations.get a).job = none := hj
    rw [forcedNow_of_not fun forced => forced.2 hj, forceClose]
    split <;> simp only [beginClosingToSlot, beginClosing, closeToSlot, closeJob, job, placeClosed]

/-- A station that one forced close leaves alone is HELD before if it is changed by a retry. -/
theorem lifted_forcedNow (s : State) {a b : Addr} (ne : b ≠ a) : Lifted (fun _ => True) s (forcedNow s a) b := by
  by_cases forced : Forceable s a
  · exact ((forcedOut_forcedNow forced).others b (List.mem_singleton.not.2 ne)).mono fun _ _ => trivial
  · rw [forcedNow_of_not forced]
    exact .inl ⟨rfl, rfl⟩

theorem Lifted.forceable {P : AccountNo → Prop} {s t : State} {a : Addr} (h : Lifted P s t a) (forced : Forceable s a) :
    Forceable t a := by
  obtain ⟨closes, some⟩ := forced
  obtain ⟨j, hj⟩ := Option.ne_none_iff_exists'.1 some
  obtain ⟨hold, job⟩ := h.job hj
  refine ⟨?_, by rw [job]; exact nofun⟩
  obtain ⟨same, _⟩ | ⟨_, active, _⟩ := h
  · rw [same]; exact closes
  · rw [active]; rfl

/-- A retry changes neither which jobs drain nor what they wait for. -/
theorem Lifted.drains_iff {P : AccountNo → Prop} {s t : State} {a : Addr} (h : Lifted P s t a) (j : Job) (hold : Nat) :
    Drains t a { j with hold := hold } ↔ Drains s a j := by
  have running : (t.stations.get a).state = .active ∨ (t.stations.get a).state = .held
      ↔ (s.stations.get a).state = .active ∨ (s.stations.get a).state = .held := by
    obtain ⟨same, _⟩ | ⟨held, active, _⟩ := h
    · rw [same]
    · simp [held, active]
  exact and_congr_left' running

theorem OnOne.of_lifted {P : Addr → AccountNo → Prop} {s t : State} {l : List Addr}
    (lifted : ∀ b ∈ l, Lifted (P b) s t b) (jobs : ∀ b ∈ l, jobAt s b ≠ none) {n : AccountNo} (h : OnOne t l n) :
    OnOne s l n := by
  obtain ⟨b, hb, k, hk, on⟩ := h
  obtain ⟨j, hj⟩ := Option.ne_none_iff_exists'.1 (jobs b hb)
  obtain ⟨hold, job⟩ := (lifted b hb).job hj
  rw [hk] at job
  cases job
  exact ⟨b, hb, j, hj, on⟩

/-- One more forced close, before the others. -/
theorem ForcedOut.cons {s t v : State} {a : Addr} {l : List Addr} (new : a ∉ l) (jobs : ∀ b ∈ l, jobAt s b ≠ none)
    (first : ForcedOut [a] s t) (some : jobAt s a ≠ none) (h : ForcedOut l t v) : ForcedOut (a :: l) s v := by
  have apart (b : Addr) (hb : b ∈ l) : b ∉ [a] := List.mem_singleton.not.2 (ne_of_mem_of_not_mem hb new)
  have lifted (b : Addr) (hb : b ∈ l) : Lifted (OnOne s [a]) s t b := first.others b (apart b hb)
  have later {n : AccountNo} (on : OnOne t l n) : OnOne s (a :: l) n := by
    obtain ⟨b, hb, k, hk⟩ := OnOne.of_lifted lifted jobs on
    exact ⟨b, List.mem_cons_of_mem _ hb, k, hk⟩
  have now {n : AccountNo} (on : OnOne s [a] n) : OnOne s (a :: l) n := by
    obtain ⟨b, hb, k, hk⟩ := on
    exact ⟨b, List.mem_cons.2 (.inl (List.mem_singleton.1 hb)), k, hk⟩
  obtain ⟨j, hj⟩ := Option.ne_none_iff_exists'.1 some
  have mine {k : Job} (hk : jobAt s a = Option.some k) : k = j := by rw [hj] at hk; cases hk; rfl
  have self : a ∈ [a] := List.mem_singleton_self a
  have settled : v.stations.get a = t.stations.get a ∧ v.presence.get a = t.presence.get a := by
    refine (h.others a new).same ?_
    by_cases drains : Drains s a j
    · rw [(first.drained a self j hj drains).state]; exact nofun
    · rw [(first.closed a self j hj drains).state]
      intro held
      have rest := atRest_restState s a
      rw [held] at rest
      cases rest
  have job : jobAt v a = jobAt t a := congrArg Station.job settled.1
  have rests (b : Addr) : restState t b = restState s b :=
    restState_congr (first.present b) (by rw [first.frame]) (by rw [first.frame])
  have timers : t.timers = s.timers := by rw [first.frame]
  refine {
    frame := ?_, present := fun b => (h.present b).trans (first.present b), journal := ?_
    accounts := fun n none => ?_, plans := fun p => (h.plans p).trans (first.plans p), meters := fun b hb => ?_
    others := fun b hb => ?_, drained := fun b hb k hk drains => ?_, closed := fun b hb k hk stays => ?_ }
  · rw [h.frame, first.frame]
  · obtain ⟨one, written, record⟩ := first.journal
    obtain ⟨added, more, records⟩ := h.journal
    refine ⟨one ++ added, by rw [more, written, List.append_assoc], fun b hb k hk stays => ?_⟩
    rcases List.mem_cons.1 hb with rfl | hb
    · obtain ⟨r, hr, forced⟩ := record b self k hk stays
      exact ⟨r, List.mem_append_left _ hr, forced⟩
    · obtain ⟨hold, hk'⟩ := (lifted b hb).job hk
      obtain ⟨r, hr, forced⟩ := records b hb _ hk' (((lifted b hb).drains_iff k hold).not.2 stays)
      exact ⟨r, List.mem_append_right _ hr, forced⟩
  · exact (h.accounts n fun on => none (later on)).trans (first.accounts n fun on => none (now on))
  · obtain ⟨ne, out⟩ : b ≠ a ∧ b ∉ l := by simpa using hb
    exact (h.meters b out).trans (first.meters b (List.mem_singleton.not.2 ne))
  · obtain ⟨ne, out⟩ : b ≠ a ∧ b ∉ l := by simpa using hb
    exact ((first.others b (List.mem_singleton.not.2 ne)).mono fun _ => now).trans (h.others b out) fun _ => later
  · rcases List.mem_cons.1 hb with rfl | hb
    · have here := first.drained b self k hk drains
      exact ⟨settled.1 ▸ here.state, settled.1 ▸ here.ending, settled.1 ▸ here.timer, job ▸ here.job,
        (h.meters b new).trans here.meters⟩
    · obtain ⟨hold, hk'⟩ := (lifted b hb).job hk
      have there := h.drained b hb _ hk' (((lifted b hb).drains_iff k hold).2 drains)
      exact ⟨there.state, there.ending, timers ▸ there.timer, there.job,
        there.meters.trans (first.meters b (apart b hb))⟩
  · rcases List.mem_cons.1 hb with rfl | hb
    · have here := first.closed b self k hk stays
      exact ⟨settled.1 ▸ here.state, job ▸ here.job, (h.meters b new).trans here.meters, settled.2 ▸ here.note⟩
    · obtain ⟨hold, hk'⟩ := (lifted b hb).job hk
      have there := h.closed b hb _ hk' (((lifted b hb).drains_iff k hold).not.2 stays)
      exact ⟨there.state.trans (rests b), there.job, first.meters b (apart b hb) ▸ there.meters, there.note⟩

theorem forcedOut_foldl {l : List Addr} (once : l.Nodup) {s : State} (forced : ∀ a ∈ l, Forceable s a) :
    ForcedOut l s (l.foldl forcedNow s) := by
  induction l generalizing s with
  | nil => exact .nil s
  | cons a l ih =>
    obtain ⟨new, once⟩ := List.nodup_cons.1 once
    obtain ⟨first, rest⟩ := List.forall_mem_cons.1 forced
    exact .cons new (fun b hb => (rest b hb).2) (forcedOut_forcedNow first) first.2
      (ih once fun b hb => (lifted_forcedNow s (ne_of_mem_of_not_mem hb new)).forceable (rest b hb))

/-- Forced closes pass over the stations in CLOSING (R142). -/
theorem forceClose_foldl {l : List Addr} (once : l.Nodup) {p : Addr → Bool} {s : State}
    (closing : ∀ a ∈ l, p a = false → (s.stations.get a).state = .closing) :
    l.foldl forceClose s = (l.filter p).foldl forcedNow s := by
  induction l generalizing s with
  | nil => rfl
  | cons a l ih =>
    obtain ⟨new, once⟩ := List.nodup_cons.1 once
    obtain ⟨first, rest⟩ := List.forall_mem_cons.1 closing
    rw [List.foldl_cons, forceClose_eq_forcedNow, List.filter_cons]
    cases taken : p a with
    | true =>
      rw [if_pos rfl, List.foldl_cons]
      refine ih once fun b hb out => ?_
      have state := rest b hb out
      rw [((lifted_forcedNow s (ne_of_mem_of_not_mem hb new)).same (by rw [state]; exact nofun)).1, state]
    | false =>
      have state := first taken
      rw [if_neg Bool.false_ne_true, forcedNow_of_not (by rintro ⟨forced, _⟩; rw [state] at forced; cases forced)]
      exact ih once rest

end Sys2Proof.Machine

namespace Sys2Proof.Machine

set_option Elab.async false

/-! ## SET MODE (R142, R143) -/

/-! ### The authorizations of a change -/

/-- A change to mode `m` after the authorizations of `s` have ended (R41, R142). -/
structure ModeLeft (m : ShopMode) (s u : State) : Prop where
  frame    : u = { s with
    window := none, mode := m, waitQueue := [], channels := u.channels, stations := u.stations
    presence := u.presence, awaiting := u.awaiting, freeTick := u.freeTick }
  channels : ∀ c, u.channels.get c = { s.channels.get c with busy := none }
  ended    : ∀ a, (s.stations.get a).state = .authorizing → u.stations.get a =
      { s.stations.get a with state := restState u a, authCard := none, timer := none }
    ∧ u.presence.get a = { s.presence.get a with line := false, cardResult := some (.declined .mode) }
  others   : ∀ a, (s.stations.get a).state ≠ .authorizing →
    u.stations.get a = s.stations.get a ∧ u.presence.get a = s.presence.get a
  kept     : (∀ a, s.awaiting = .poll a (some .cardResult) → (s.stations.get a).state ≠ .authorizing) →
    u.awaiting = s.awaiting
  dropped  : ∀ a, s.awaiting = .poll a (some .cardResult) → (s.stations.get a).state = .authorizing →
    u.awaiting = .poll a none

theorem ModeLeft.tick {m : ShopMode} {s u : State} (h : ModeLeft m s u) (k : Nat) :
    ModeLeft m s { u with freeTick := k } where
  frame := congrArg (fun u : State => { u with freeTick := k }) h.frame
  channels := h.channels
  ended := h.ended
  others := h.others
  kept := h.kept
  dropped := h.dropped

/-- Once every authorization has ended no channel is BUSY: the law of stations holds and no station is in
AUTHORIZING (R28, R30). -/
theorem busy_of_calm {s : State} (law : StationLaw s) (calm : ∀ a, (s.stations.get a).state ≠ .authorizing)
    (c : ChannelNo) : (s.channels.get c).busy = none := by
  by_contra some
  obtain ⟨r, hr⟩ := Option.ne_none_iff_exists'.1 some
  exact calm r.station ((law.holder r.station).2 (.inl ⟨c, by rw [channelStation, hr]; rfl⟩))

theorem modeLeft_endAuthorizations {s : State} (law : StationLaw s) (m : ShopMode) :
    ModeLeft m s (endAuthorizations { s with window := none, mode := m }) := by
  have out : EndedOut (authorizingAddrs s) { s with window := none, mode := m, waitQueue := [] }
      (endAuthorizations { s with window := none, mode := m }) :=
    endedOut_foldl (allAddrs_nodup.filter _) rfl
  have law' : StationLaw (endAuthorizations { s with window := none, mode := m }) :=
    (law.congr (t := { s with window := none, mode := m }) ⟨fun _ => rfl, fun _ => .refl _, fun _ => rfl, rfl, rfl⟩).endAuthorizations
  generalize endAuthorizations { s with window := none, mode := m } = u at out law'
  have present (a : Addr) : (u.presence.get a).state = (s.presence.get a).state := by
    by_cases ended : a ∈ authorizingAddrs s
    · rw [(out.ended a ended).2]
    · rw [(out.others a ended).2]
  have ended (a : Addr) (authorizing : (s.stations.get a).state = .authorizing) : u.stations.get a =
        { s.stations.get a with state := restState u a, authCard := none, timer := none }
      ∧ u.presence.get a = { s.presence.get a with line := false, cardResult := some (.declined .mode) } := by
    obtain ⟨station, presence⟩ := out.ended a (mem_authorizingAddrs.2 authorizing)
    have rest : restState u a = restState { s with window := none, mode := m, waitQueue := [] } a :=
      restState_congr (present a) (by rw [out.frame]) (by rw [out.frame])
    exact ⟨by rw [station, rest], presence⟩
  have others (a : Addr) (other : (s.stations.get a).state ≠ .authorizing) :
      u.stations.get a = s.stations.get a ∧ u.presence.get a = s.presence.get a :=
    out.others a (mt mem_authorizingAddrs.1 other)
  have calm (a : Addr) : (u.stations.get a).state ≠ .authorizing := by
    by_cases authorizing : (s.stations.get a).state = .authorizing
    · intro e
      have rest := atRest_restState u a
      rw [(ended a authorizing).1] at e
      rw [show restState u a = .authorizing from e] at rest
      cases rest
    · rw [(others a authorizing).1]
      exact authorizing
  refine ⟨?_, fun c => ?_, ended, others, fun none => ?_, fun a sent authorizing => ?_⟩
  · rw [out.frame]
  · exact congrArg₂ Channel.mk (out.generation c) (busy_of_calm law' calm c)
  · exact out.kept fun a ha sent => none a sent (mem_authorizingAddrs.1 ha)
  · exact out.dropped a (mem_authorizingAddrs.2 authorizing) sent

/-- A station with a job is not in AUTHORIZING, so the end of the authorizations leaves it (R43). -/
theorem ModeLeft.of_job {m : ShopMode} {s u : State} (h : ModeLeft m s u) (law : StationLaw s) {a : Addr} {j : Job}
    (hj : jobAt s a = some j) : u.stations.get a = s.stations.get a ∧ u.presence.get a = s.presence.get a := by
  refine h.others a fun authorizing => ?_
  have opened := law.job a
  rw [hj, authorizing] at opened
  cases opened

theorem ModeLeft.job {m : ShopMode} {s u : State} (h : ModeLeft m s u) (a : Addr) : jobAt u a = jobAt s a := by
  by_cases authorizing : (s.stations.get a).state = .authorizing
  · rw [jobAt, (h.ended a authorizing).1, jobAt]
  · rw [jobAt, (h.others a authorizing).1, jobAt]

/-! ### The jobs that a change forces -/

/-- A change to mode `m` closes the station's job by force: the job is not admitted, and not in CLOSING (R142, R143). -/
def Forced (m : ShopMode) (s : State) (a : Addr) : Prop :=
  (s.stations.get a).state ≠ .closing ∧ ∃ j, jobAt s a = some j ∧ jobAdmitted m j = false

theorem jobAdmitted_iff (m : ShopMode) (j : Job) : jobAdmitted m j = true ↔
    (m = .openShop ∧ j.service = false) ∨ (m = .afterHours ∧ j.service = false ∧ j.rights.afterHours = true)
      ∨ (m = .service ∧ j.service = true) := by
  cases m <;> simp [jobAdmitted]

theorem mem_notAdmitted {s : State} {m : ShopMode} {a : Addr} : a ∈ notAdmitted s m ↔
    hasOpenJob (s.stations.get a).state = true ∧ ∃ j, jobAt s a = some j ∧ jobAdmitted m j = false := by
  simp only [notAdmitted, List.mem_filter, mem_allAddrs, true_and, Bool.and_eq_true, jobAt]
  refine and_congr_right' ?_
  cases (s.stations.get a).job <;> simp

/-- The stations whose jobs a change forces, in the free order of the change (R142; log entry 2). -/
def forceOrder (s : State) (m : ShopMode) : List Addr :=
  (freeOrder s (notAdmitted s m)).filter fun a => forceCloses (s.stations.get a).state

theorem forceOrder_nodup (s : State) (m : ShopMode) : (forceOrder s m).Nodup :=
  ((freeOrder_perm s _).nodup_iff.2 (allAddrs_nodup.filter _)).filter _

theorem mem_forceOrder {m : ShopMode} {s : State} (law : StationLaw s) {a : Addr} :
    a ∈ forceOrder s m ↔ Forced m s a := by
  rw [forceOrder, List.mem_filter, mem_freeOrder, mem_notAdmitted, Forced, forceCloses, Bool.and_eq_true,
    bne_iff_ne]
  constructor
  · rintro ⟨⟨_, job⟩, _, other⟩
    exact ⟨other, job⟩
  · rintro ⟨other, j, hj, out⟩
    have opened : hasOpenJob (s.stations.get a).state = true := by rw [← law.job, hj]; rfl
    exact ⟨⟨opened, j, hj, out⟩, opened, other⟩

/-- The forced closes of a change, CLOSING stations passed over (R142). -/
theorem forceAll_notAdmitted (s : State) (m : ShopMode) :
    forceAll s (notAdmitted s m) = (forceOrder s m).foldl forcedNow (tickOrder s (notAdmitted s m)) := by
  obtain ⟨k, ticked⟩ := tickOrder_eq s (notAdmitted s m)
  refine forceClose_foldl ((freeOrder_perm s _).nodup_iff.2 (allAddrs_nodup.filter _)) fun a ha passed => ?_
  obtain ⟨opened, _⟩ := mem_notAdmitted.1 ((mem_freeOrder ..).1 ha)
  rw [ticked]
  simpa [forceCloses, opened] using passed

theorem forceOrder_length (s : State) (m : ShopMode) :
    ((notAdmitted s m).filter fun a => forceCloses (s.stations.get a).state).length = (forceOrder s m).length :=
  ((freeOrder_perm s _).filter _).length_eq.symm

theorem crossesClosed_iff {old new : ShopMode} (change : new ≠ old) :
    crossesClosed old new = true ↔ old = .closed ∨ new = .closed := by
  by_cases out : old = .closed
  · simp [crossesClosed, out, show new ≠ .closed from out ▸ change]
  · simp [crossesClosed, out]

/-- The stations that take their rest state at a change (R139, R142). -/
def restList (old new : ShopMode) : List Addr := if crossesClosed old new then allAddrs else []

/-- A change of mode: authorizations, forced closes and rest states (R142). -/
theorem changeMode_eq (s : State) (m : ShopMode) :
    let u := endAuthorizations { s with mode := m }
    changeMode m s = accept (.modeChange s.mode m (authorizingAddrs s).length (forceOrder u m).length)
      ((restList s.mode m).foldl takeRest ((forceOrder u m).foldl forcedNow (tickOrder u (notAdmitted u m)))) := by
  intro u
  rw [changeMode, forceOrder_length, ← forceAll_notAdmitted, restList]
  cases crossesClosed s.mode m <;> rfl

/-! ### What stands of a station after its rest state -/

theorem Rested.job {l : List Addr} {v t : State} (h : Rested l v t) (a : Addr) : jobAt t a = jobAt v a := by
  by_cases rest : a ∈ l ∧ atRest (v.stations.get a).state = true
  · rw [jobAt, (h.rests a rest.1 rest.2).1, jobAt]
  · rw [jobAt, (h.others a (by simpa [imp_iff_not_or] using rest)).1, jobAt]

theorem Rested.presence {l : List Addr} {v t : State} (h : Rested l v t) (a : Addr) :
    (t.presence.get a).state = (v.presence.get a).state
      ∧ (t.presence.get a).jobClosed = (v.presence.get a).jobClosed := by
  by_cases rest : a ∈ l ∧ atRest (v.stations.get a).state = true
  · rw [(h.rests a rest.1 rest.2).2]
    exact ⟨rfl, rfl⟩
  · rw [(h.others a (by simpa [imp_iff_not_or] using rest)).2]
    exact ⟨rfl, rfl⟩

theorem Rested.restState {l : List Addr} {v t : State} (h : Rested l v t) (a : Addr) :
    restState t a = Machine.restState v a :=
  restState_congr (h.presence a).1 (by rw [h.frame]) (by rw [h.frame])

/-- A station in its rest state is in its rest state afterwards. -/
theorem Rested.state {l : List Addr} {v t : State} (h : Rested l v t) {a : Addr}
    (rest : (v.stations.get a).state = Machine.restState v a) : (t.stations.get a).state = Machine.restState t a := by
  have calm : atRest (v.stations.get a).state = true := by rw [rest]; exact atRest_restState v a
  rw [h.restState a]
  by_cases here : a ∈ l
  · rw [(h.rests a here calm).1]
  · rw [(h.others a (.inl here)).1, rest]

end Sys2Proof.Machine

namespace Sys2Proof.Machine

set_option Elab.async false

/-! ### SET MODE, in the words of the statement -/

theorem modeOf_of_named {mode : Nat} {m : ShopMode} (named : (mode = 0 ∧ m = .openShop) ∨ (mode = 1 ∧ m = .afterHours)
    ∨ (mode = 2 ∧ m = .service) ∨ (mode = 3 ∧ m = .closed)) : modeOf mode = some m := by
  rcases named with ⟨rfl, rfl⟩ | ⟨rfl, rfl⟩ | ⟨rfl, rfl⟩ | ⟨rfl, rfl⟩ <;> rfl

theorem modeOf_eq_none {mode : Nat} (high : 4 ≤ mode) : modeOf mode = none := List.getElem?_eq_none high

/-- A change of mode from `s` to `t`: `u` after the authorizations, the forced closes in order, then the rest states
(R142). -/
structure Changed (m : ShopMode) (s u t : State) (order : List Addr) : Prop where
  left   : ModeLeft m s u
  once   : order.Nodup
  forced : ∀ a, a ∈ order ↔ Forced m s a
  out    : ForcedOut order u (order.foldl forcedNow u)
  rested : Rested (restList s.mode m) (order.foldl forcedNow u) t

section
variable {m : ShopMode} {s u t : State} {order : List Addr} {a : Addr} {j : Job}

/-- The jobs forced are jobs of `s`. -/
theorem Changed.onOne (h : Changed m s u t order) {n : AccountNo} (on : OnOne u order n) :
    ∃ a j, Forced m s a ∧ jobAt s a = some j ∧ j.account = n := by
  obtain ⟨a, ha, j, hj, account⟩ := on
  exact ⟨a, j, (h.forced a).1 ha, (h.left.job a).symm.trans hj, account⟩

/-- A station with a job that the forced closes and retries leave as it is stays as it was (R142). -/
theorem Changed.same_of_job (h : Changed m s u t order) (law : StationLaw s) (hj : jobAt s a = some j)
    (spared : ¬ Forced m s a) (calm : (s.stations.get a).state ≠ .held
      ∨ ∀ b k, Forced m s b → jobAt s b = some k → k.account ≠ j.account) :
    t.stations.get a = s.stations.get a ∧ t.presence.get a = s.presence.get a := by
  obtain ⟨station, presence⟩ := h.left.of_job law hj
  have lifted := h.out.others a (mt (h.forced a).1 spared)
  have same : (order.foldl forcedNow u).stations.get a = u.stations.get a
      ∧ (order.foldl forcedNow u).presence.get a = u.presence.get a := by
    rcases calm with other | apart
    · exact lifted.same (by rw [station]; exact other)
    · refine lifted.resolve_right fun ⟨_, _, _, k, _, before, on, _⟩ => ?_
      rw [h.left.job, hj] at before
      cases before
      obtain ⟨b, k, forced, hk, account⟩ := h.onOne on
      exact apart b k forced hk account
  have opened : atRest (s.stations.get a).state = false := by
    rw [← Bool.not_eq_true]
    intro rest
    have closed := hasOpenJob_of_atRest rest
    rw [← law.job, hj] at closed
    cases closed
  obtain ⟨station', presence'⟩ := h.rested.others a (.inr (by rw [same.1, station]; exact opened))
  exact ⟨station'.trans (same.1.trans station), presence'.trans (same.2.trans presence)⟩

/-- A station at rest keeps its state at a change that neither enters nor leaves CLOSED (R139, R142). -/
theorem Changed.same_of_atRest (h : Changed m s u t order) (law : StationLaw s)
    (within : crossesClosed s.mode m = false) (rest : atRest (s.stations.get a).state = true) :
    t.stations.get a = s.stations.get a ∧ t.presence.get a = s.presence.get a := by
  obtain ⟨station, presence⟩ := h.left.others a fun authorizing => by rw [authorizing] at rest; cases rest
  have spared : a ∉ order := fun ha => by
    obtain ⟨_, j, hj, _⟩ := (h.forced a).1 ha
    have closed := hasOpenJob_of_atRest rest
    rw [← law.job, hj] at closed
    cases closed
  obtain ⟨station', presence'⟩ := (h.out.others a spared).same fun held => by
    rw [← station, held] at rest
    cases rest
  obtain ⟨station'', presence''⟩ := h.rested.others a (.inl (by simp [restList, within]))
  exact ⟨station''.trans (station'.trans station), presence''.trans (presence'.trans presence)⟩

theorem Changed.drains_iff (h : Changed m s u t order) (law : StationLaw s) (hj : jobAt s a = some j) :
    Drains u a j ↔ Drains s a j := by
  rw [Drains, Drains, (h.left.of_job law hj).1]

/-- A forced job with sheets in flight drains (R55, R143). -/
theorem Changed.draining (h : Changed m s u t order) (law : StationLaw s) (forced : Forced m s a)
    (hj : jobAt s a = some j) (drains : Drains s a j) : Draining s t a j := by
  have out := h.out.drained a ((h.forced a).2 forced) j ((h.left.job a).trans hj) ((h.drains_iff law hj).2 drains)
  obtain ⟨station, _⟩ := h.rested.others a (.inr (by rw [out.state]; rfl))
  have timers : u.timers = s.timers := by rw [h.left.frame]
  have meters : u.meters = s.meters := by rw [h.left.frame]
  have meters' : t.meters = (order.foldl forcedNow u).meters := by rw [h.rested.frame]
  exact ⟨station ▸ out.state, station ▸ out.ending, station ▸ timers ▸ out.timer, (h.rested.job a).symm ▸ out.job,
    by rw [meters', out.meters, meters]⟩

/-- Any other forced job is closed, and its station takes its rest state (R57, R143). -/
theorem Changed.closed (h : Changed m s u t order) (law : StationLaw s) (forced : Forced m s a)
    (hj : jobAt s a = some j) (stays : ¬ Drains s a j) :
    (t.stations.get a).state = restState t a ∧ jobAt t a = none
      ∧ t.meters.get a = { s.meters.get a with
        writtenOff := rolled (s.meters.get a).writtenOff (j.highest - j.confirmed) }
      ∧ ((t.presence.get a).jobClosed.map fun c => (c.reason, c.writtenOff))
        = some (.forced, j.writtenOff + (j.highest - j.confirmed)) := by
  have out := h.out.closed a ((h.forced a).2 forced) j ((h.left.job a).trans hj) ((h.drains_iff law hj).not.2 stays)
  have rest : restState (order.foldl forcedNow u) a = restState u a :=
    restState_congr (h.out.present a) (by rw [h.out.frame]) (by rw [h.out.frame])
  have meters : u.meters = s.meters := by rw [h.left.frame]
  have meters' : t.meters = (order.foldl forcedNow u).meters := by rw [h.rested.frame]
  exact ⟨h.rested.state (out.state.trans rest.symm), (h.rested.job a).trans out.job, by rw [meters', out.meters, meters],
    by rw [(h.rested.presence a).2]; exact out.note⟩

end

/-- SET MODE to another mode is such a change (R142). -/
theorem setMode_change {s : State} (law : StationLaw s) {mode : Nat} {m : ShopMode} (known : modeOf mode = some m)
    (change : m ≠ s.mode) : ∃ u t order, Changed m s u t order
      ∧ setMode mode { s with window := none } = accept (.modeChange s.mode m
        (allAddrs.filter fun a => (s.stations.get a).state == .authorizing).length order.length) t := by
  let u₀ := endAuthorizations { s with window := none, mode := m }
  have left : ModeLeft m s u₀ := modeLeft_endAuthorizations law m
  have law₀ : StationLaw u₀ := (law.congr (t := { s with window := none, mode := m })
    ⟨fun _ => rfl, fun _ => .refl _, fun _ => rfl, rfl, rfl⟩).endAuthorizations
  obtain ⟨k, ticked⟩ := tickOrder_eq u₀ (notAdmitted u₀ m)
  let u : State := { u₀ with freeTick := k }
  have forced (a : Addr) : a ∈ forceOrder u₀ m ↔ Forced m s a := by
    rw [mem_forceOrder law₀, Forced, Forced, left.job]
    refine and_congr_left fun ⟨j, hj, _⟩ => ?_
    rw [(left.of_job law hj).1]
  have out : ForcedOut (forceOrder u₀ m) u ((forceOrder u₀ m).foldl forcedNow u) :=
    forcedOut_foldl (forceOrder_nodup ..) fun a ha => by
      obtain ⟨_, j, hj, _⟩ := (mem_forceOrder law₀).1 ha
      exact ⟨(List.mem_filter.1 ha).2, by rw [show jobAt u a = some j from hj]; exact nofun⟩
  have once : (restList s.mode m).Nodup := by
    rw [restList]
    split
    · exact allAddrs_nodup
    · exact List.nodup_nil
  refine ⟨u, _, forceOrder u₀ m, ⟨left.tick k, forceOrder_nodup .., forced, out, rested_foldl once _⟩, ?_⟩
  rw [setMode, known]
  refine (if_neg change).trans ((changeMode_eq { s with window := none } m).trans ?_)
  rw [show tickOrder u₀ (notAdmitted u₀ m) = u from ticked]
  rfl

/-- Settles O40: the change is taken apart into authorizations, forced closes and rest states. -/
theorem setModeEndsAndForces : Obligations.SetModeEndsAndForces := by
  intro s req m mode low law o named admits ended forced drains crossed
  refine ⟨fun high => request_refused low ?_, fun known same => request_answered low ?_, fun known change => ?_⟩
  · rw [setMode, modeOf_eq_none high]
  · rw [setMode, modeOf_of_named known]
    exact if_pos same
  obtain ⟨u, t, order, changed, result⟩ := setMode_change law (modeOf_of_named known) change
  have forced_iff (a : Addr) : forced a ↔ Forced m s a := by
    refine and_congr_right' (exists_congr fun j => and_congr_right' ?_)
    rw [← Bool.not_eq_true, jobAdmitted_iff]
  have crossed_iff : crossesClosed s.mode m = true ↔ crossed := crossesClosed_iff change
  have within {a : Addr} : a ∉ restList s.mode m ↔ ¬ crossed := by
    rw [← crossed_iff, restList]
    split
    next crosses => simp [crosses, mem_allAddrs]
    next stays => simp [stays]
  obtain ⟨added, journal, records⟩ := changed.out.journal
  have left := changed.left
  have frame := changed.rested.frame
  have out := changed.out
  refine ⟨u, t, order, added, request_answered low result, left.frame, left.channels,
    fun a => ⟨left.ended a, left.others a⟩, left.kept, left.dropped, changed.once,
    fun a => (changed.forced a).trans (forced_iff a).symm,
    ⟨frame, fun a => ⟨fun crosses rest => changed.rested.rests a (not_not.1 (mt within.1 (not_not.2 crosses))) rest,
      fun quiet => changed.rested.others a (quiet.imp_left within.2)⟩⟩,
    ?_, fun n apart => ?_, fun p => ?_, fun a spared => ?_,
    fun a j hj spared calm => changed.same_of_job law hj (mt (forced_iff a).2 spared)
      (calm.imp_right fun apart b k hb => apart b k ((forced_iff b).2 hb)),
    fun a stays rest => changed.same_of_atRest law (Bool.eq_false_iff.2 (mt crossed_iff.1 stays)) rest,
    fun a j hf hj => ?_⟩
  · rw [frame]
    exact journal.trans (by rw [left.frame])
  · rw [frame]
    refine (out.accounts n fun on => ?_).trans (by rw [left.frame])
    obtain ⟨a, j, hf, hj, account⟩ := changed.onOne on
    exact apart a j ((forced_iff a).2 hf) hj account
  · rw [frame]
    exact (out.plans p).trans (by rw [left.frame])
  · rw [frame]
    exact (out.meters a (mt (fun ha => (forced_iff a).2 ((changed.forced a).1 ha)) spared)).trans (by rw [left.frame])
  · have hf' := (forced_iff a).1 hf
    refine ⟨fun hd => ?_, fun hd => ?_⟩
    · have draining := changed.draining law hf' hj hd
      exact ⟨draining.state, draining.ending, draining.timer, draining.job, draining.meters⟩
    · obtain ⟨state, job, meters, note⟩ := changed.closed law hf' hj hd
      exact ⟨state, job, meters, note, records a ((changed.forced a).2 hf') j ((left.job a).trans hj)
        ((changed.drains_iff law hj).not.2 hd)⟩

end Sys2Proof.Machine

namespace Sys2Proof.Machine

set_option Elab.async false

/-! ## The floor law, address by address (R44, R59, R147, R149, R152)

`Stands fresh p s a` is the floor law of one address `a` whose presence is `p`; with `fresh` its rest state is the
one that applies. Every operation of a step keeps it at every address, and where an operation leaves an address for
a while (a station heard but not yet returned, a mode changed before its rest states follow), the law stands at the
other addresses, or without `fresh`. -/

/-- A presence record at its reset values but for presence and line, as an ABSENT or CONFLICT address has it. -/
def Cleared (p : PresenceRecord) : Prop := p = { PresenceRecord.reset with state := p.state, line := p.line }

/-- A state that a DETACHED station returns to (R59). -/
def Recalled (m : Option StationState) : Prop :=
  m = some .active ∨ m = some .held ∨ m = some .jammed ∨ m = some .closing

/-- The floor law of one address. -/
structure Stands (fresh : Prop) (p : Presence) (s : State) (a : Addr) : Prop where
  seen     : (s.presence.get a).state = p
  rest     : fresh → atRest (s.stations.get a).state = true → (s.stations.get a).state = restState s a
  present  : p = .present → (s.stations.get a).state ≠ .detached
  lost     : p = .lost → (s.stations.get a).state = .offline ∨ (s.stations.get a).state = .detached
  missing  : p = .absent ∨ p = .conflict → (s.stations.get a).state = .offline ∧ Cleared (s.presence.get a)
  detached : (s.stations.get a).state = .detached → Recalled (s.stations.get a).remembered
  sweep    : inSweep s → atRest (s.stations.get a).state = true
  probe    : s.awaiting = .probe a → p = .absent
  loss     : (s.presence.get a).lossTimer.isSome = true → p = .lost ∧ (s.stations.get a).state = .offline

/-- An address whose presence is `p`, PRESENT or LOST, with no probe on its way; what its station does is left open. -/
structure Reached (p : Presence) (s : State) (a : Addr) : Prop where
  seen   : (s.presence.get a).state = p
  polled : isPolled p = true
  probe  : s.awaiting ≠ .probe a
  loss   : (s.presence.get a).lossTimer.isSome = true → p = .lost

/-- The law of every address, the presence of each given by `P`. -/
def Floored (fresh : Prop) (P : Addr → Presence) (s : State) : Prop := ∀ a, Stands fresh (P a) s a

/-- The law of every address but one. -/
def Elsewhere (fresh : Prop) (P : Addr → Presence) (a : Addr) (s : State) : Prop := ∀ b, b ≠ a → Stands fresh (P b) s b

theorem floorLaw_iff {s : State} : FloorLaw s ↔ StationLaw s ∧ ∃ P, Floored True P s := by
  constructor
  · intro h
    exact ⟨h.stations, fun a => (s.presence.get a).state, fun a => ⟨rfl, fun _ => h.rest a, h.present a, h.lost a,
      h.missing a, h.detached a, fun w => h.sweep w a, h.probe a, h.loss a⟩⟩
  · rintro ⟨stations, P, h⟩
    exact ⟨stations, fun a => (h a).rest trivial, fun a e => (h a).present ((h a).seen ▸ e),
      fun a e => (h a).lost ((h a).seen ▸ e), fun a e => (h a).missing ((h a).seen ▸ e), fun a => (h a).detached,
      fun w a => (h a).sweep w, fun a e => (h a).seen.trans ((h a).probe e),
      fun a e => ⟨(h a).seen.trans ((h a).loss e).1, ((h a).loss e).2⟩⟩

/-! ### One address -/

/-- From `s` to `t` no sweep and no probe of the rotation begins. -/
structure Linked (s t : State) : Prop where
  sweep : inSweep t → inSweep s
  probe : ∀ a, t.awaiting = .probe a → s.awaiting = .probe a

theorem Linked.of_eq {s t : State} (sweep : t.sweep = s.sweep := by rfl)
    (awaiting : t.awaiting = s.awaiting := by rfl) :
    Linked s t := by
  refine ⟨fun h => ?_, fun a h => awaiting ▸ h⟩
  rwa [inSweep, sweep, awaiting] at h

/-- A message of the visit forgotten leaves a visit. -/
theorem Linked.of_forgot {s t : State} (b : Addr) (ms : List Message) (sweep : t.sweep = s.sweep := by rfl)
    (awaiting : t.awaiting = forgot s.awaiting b ms := by rfl) : Linked s t := by
  have visit : t.awaiting = s.awaiting ∨ t.awaiting = .poll b none := by
    rw [awaiting]
    unfold forgot
    split
    next c m =>
      split
      next => exact .inr rfl
      next => exact .inl rfl
    next => exact .inl rfl
  obtain same | visit := visit
  · exact .of_eq sweep same
  · exact ⟨fun h => .inl (h.elim (sweep ▸ id) fun w => (by simp [visit, awaitsSweep] at w)), fun a h => by
      rw [visit] at h
      cases h⟩

theorem restState_present {s : State} {a : Addr} (h : (s.presence.get a).state ≠ .present) : restState s a = .offline :=
  if_neg h

theorem restState_of_enable {s t : State} {a : Addr} (seen : (t.presence.get a).state = (s.presence.get a).state)
    (enable : effectiveEnable t a = effectiveEnable s a) : restState t a = restState s a := by
  rw [restState, restState, seen, enable]

theorem restState_ne_detached (s : State) (a : Addr) : restState s a ≠ .detached :=
  fun h => by simpa [h, atRest] using atRest_restState s a

section
variable {fresh : Prop} {p : Presence} {s t : State} {a : Addr}

/-- A change that keeps what the law reads of a station and its presence keeps the law. -/
theorem Stands.kept (h : Stands fresh p s a) (link : Linked s t)
    (state : (t.stations.get a).state = (s.stations.get a).state)
    (remembered : (t.stations.get a).remembered = (s.stations.get a).remembered)
    (seen : (t.presence.get a).state = (s.presence.get a).state)
    (loss : (t.presence.get a).lossTimer.isSome = (s.presence.get a).lossTimer.isSome)
    (clear : p = .absent ∨ p = .conflict → Cleared (s.presence.get a) → Cleared (t.presence.get a))
    (rest : restState t a = restState s a) : Stands fresh p t a where
  seen := seen.trans h.seen
  rest f r := by
    rw [state] at r ⊢
    rw [rest]
    exact h.rest f r
  present := state ▸ h.present
  lost := state ▸ h.lost
  missing e := ⟨state ▸ (h.missing e).1, clear e (h.missing e).2⟩
  detached := by
    rw [state, remembered]
    exact h.detached
  sweep w := state ▸ h.sweep (link.sweep w)
  probe e := h.probe (link.probe a e)
  loss := by
    rw [state, loss]
    exact h.loss

/-- An untouched address keeps its law. -/
theorem Stands.same (h : Stands fresh p s a) (link : Linked s t) (station : t.stations.get a = s.stations.get a)
    (presence : t.presence.get a = s.presence.get a) (rest : restState t a = restState s a) : Stands fresh p t a :=
  h.kept link (by rw [station]) (by rw [station]) (by rw [presence]) (by rw [presence])
    (fun _ => by rw [presence]; exact id)
    rest

/-- A station at the rest state that applies, at an address that may be polled, meets the law. -/
theorem Stands.of_rest (reached : Reached p t a) (state : (t.stations.get a).state = restState t a) :
    Stands fresh p t a where
  seen := reached.seen
  rest _ _ := state
  present _ := state ▸ restState_ne_detached t a
  lost e := .inl (state.trans (restState_present (by rw [reached.seen, e]; exact nofun)))
  missing e := by
    have polled := reached.polled
    rcases e with e | e <;> rw [e] at polled <;> cases polled
  detached e := absurd (state.symm.trans e) (restState_ne_detached t a)
  sweep _ := state ▸ atRest_restState t a
  probe e := absurd e reached.probe
  loss e := ⟨reached.loss e, state.trans (restState_present (by rw [reached.seen, reached.loss e]; exact nofun))⟩

/-- A station in the rest state of a cleared address meets the law. -/
theorem Stands.of_missing (seen : (t.presence.get a).state = p) (missing : p = .absent ∨ p = .conflict)
    (state : (t.stations.get a).state = .offline) (clear : Cleared (t.presence.get a))
    (probe : t.awaiting = .probe a → p = .absent) : Stands fresh p t a where
  seen := seen
  rest _ _ := state.trans (restState_present (by rw [seen]; rcases missing with e | e <;> rw [e] <;> exact nofun)).symm
  present e := by rcases missing with m | m <;> cases m.symm.trans e
  lost e := by rcases missing with m | m <;> cases m.symm.trans e
  missing _ := ⟨state, clear⟩
  detached e := by cases state.symm.trans e
  sweep _ := by rw [state]; rfl
  probe := probe
  loss e := by rw [clear] at e; cases e

/-- A station with a job or an authorization at a PRESENT address, outside a sweep, meets the law. -/
theorem Stands.of_work (reached : Reached .present t a) (busy : atRest (t.stations.get a).state = false)
    (attached : (t.stations.get a).state ≠ .detached) (calm : ¬ inSweep t) : Stands fresh .present t a where
  seen := reached.seen
  rest _ r := by rw [busy] at r; cases r
  present _ := attached
  lost := nofun
  missing := nofun
  detached e := absurd e attached
  sweep w := absurd w calm
  probe e := absurd e reached.probe
  loss e := by cases reached.loss e

/-- A station in any state but OFFLINE and DETACHED stands at a PRESENT address. -/
theorem Stands.attended (h : Stands fresh p s a) (on : (s.stations.get a).state ≠ .offline)
    (attached : (s.stations.get a).state ≠ .detached) : p = .present := by
  cases e : p with
  | present => rfl
  | lost => exact absurd (h.lost e) (not_or.2 ⟨on, attached⟩)
  | absent => exact absurd (h.missing (.inl e)).1 on
  | conflict => exact absurd (h.missing (.inr e)).1 on

/-- A station in any state but OFFLINE stands at a PRESENT or LOST address. -/
theorem Stands.polled (h : Stands fresh p s a) (on : (s.stations.get a).state ≠ .offline) : isPolled p = true := by
  cases e : p with
  | present | lost => rfl
  | absent => exact absurd (h.missing (.inl e)).1 on
  | conflict => exact absurd (h.missing (.inr e)).1 on

theorem Stands.calm (h : Stands fresh p s a) (busy : atRest (s.stations.get a).state = false) : ¬ inSweep s :=
  fun w => by rw [h.sweep w] at busy; cases busy

theorem Stands.reached (h : Stands fresh p s a) (polled : isPolled p = true) : Reached p s a :=
  ⟨h.seen, polled, fun e => (by rw [h.probe e] at polled; cases polled), fun l => (h.loss l).1⟩

/-- Where messages and records are written the address is reached as before. -/
theorem Reached.kept (h : Reached p s a) (link : Linked s t)
    (seen : (t.presence.get a).state = (s.presence.get a).state)
    (loss : (t.presence.get a).lossTimer.isSome = true → (s.presence.get a).lossTimer.isSome = true) : Reached p t a :=
  ⟨seen.trans h.seen, h.polled, fun e => h.probe (link.probe a e), fun l => h.loss (loss l)⟩

end

/-! ### Every address -/

section
variable {fresh : Prop} {P : Addr → Presence} {s t : State} {a : Addr}

/-- A change at one address. -/
theorem Elsewhere.change (h : Elsewhere fresh P a s) (link : Linked s t) (here : Stands fresh (P a) t a)
    (others : ∀ b, b ≠ a → t.stations.get b = s.stations.get b ∧ t.presence.get b = s.presence.get b
      ∧ restState t b = restState s b) : Floored fresh P t := by
  intro b
  by_cases same : b = a
  · subst same
    exact here
  · obtain ⟨station, presence, rest⟩ := others b same
    exact (h b same).same link station presence rest

/-- A station record and a presence record replaced, mode and admin enables kept. -/
theorem Elsewhere.set (h : Elsewhere fresh P a s) (link : Linked s t) {r : Station} {q : PresenceRecord}
    (stations : t.stations = s.stations.set a r) (presence : t.presence = s.presence.set a q)
    (here : Stands fresh (P a) t a) (enable : t.adminEnable = s.adminEnable := by rfl)
    (mode : t.mode = s.mode := by rfl) :
    Floored fresh P t :=
  h.change link here fun b ne => by
    have same : t.presence.get b = s.presence.get b := by rw [presence, Table.get_set_ne _ _ ne.symm]
    exact ⟨by rw [stations, Table.get_set_ne _ _ ne.symm], same, restState_congr (by rw [same]) enable mode⟩

theorem Floored.elsewhere (h : Floored fresh P s) (a : Addr) : Elsewhere fresh P a s := fun b _ => h b

/-- A change that no address sees. -/
theorem Floored.frame (h : Floored fresh P s) (link : Linked s t := by exact .of_eq)
    (stations : t.stations = s.stations := by rfl) (presence : t.presence = s.presence := by rfl)
    (enable : t.adminEnable = s.adminEnable := by rfl) (mode : t.mode = s.mode := by rfl) : Floored fresh P t :=
  fun a => (h a).same link (by rw [stations]) (by rw [presence]) (restState_congr (by rw [presence]) enable mode)

end

end Sys2Proof.Machine

namespace Sys2Proof.Machine

set_option Elab.async false

theorem Cleared.line {p : PresenceRecord} (h : Cleared p) (b : Bool) : Cleared { p with line := b } := by
  rw [h]
  rfl

/-! ### The operations over one record -/

section
variable {fresh : Prop} {P : Addr → Presence} {s : State} (h : Floored fresh P s)
include h

theorem Floored.setStation (a : Addr) (x : Station) (state : x.state = (s.stations.get a).state := by rfl)
    (remembered : x.remembered = (s.stations.get a).remembered := by rfl) : Floored fresh P (setStation s a x) :=
  (h.elsewhere a).set .of_eq rfl (Table.set_get ..).symm ((h a).kept .of_eq (by simpa using state)
    (by simpa using remembered) rfl rfl (fun _ => id) rfl)

theorem Floored.setPresence (a : Addr) (x : PresenceRecord) (polled : isPolled (P a) = true)
    (seen : x.state = (s.presence.get a).state := by rfl)
    (loss : x.lossTimer.isSome = (s.presence.get a).lossTimer.isSome := by rfl) : Floored fresh P (setPresence s a x) :=
  (h.elsewhere a).set .of_eq (Table.set_get ..).symm rfl ((h a).kept .of_eq rfl rfl (by simpa using seen)
    (by simpa using loss) (fun e => by rcases e with e | e <;> rw [e] at polled <;> cases polled)
    (restState_congr (by simpa using seen)))

theorem Floored.setJob (a : Addr) (j : Job) : Floored fresh P (setJob s a j) := h.setStation a _

theorem Floored.startTimer (a : Addr) (k : TimerKind) : Floored fresh P (startTimer s a k) := h.setStation a _

theorem Floored.stopTimer (a : Addr) : Floored fresh P (stopTimer s a) := h.setStation a _

theorem Floored.newlyPresent (a : Addr) : Floored fresh P (newlyPresent s a) := h.setStation a _

theorem Floored.refreshIdle (a : Addr) : Floored fresh P (refreshIdle s a) := by
  obtain ⟨t, e⟩ := refreshIdle_eq s a
  rw [e]
  exact h.setStation a _

/-- A PRESENT station goes to a state with a job or an authorization. -/
theorem Floored.enter (a : Addr) (st : StationState) (on : (s.stations.get a).state ≠ .offline)
    (attached : (s.stations.get a).state ≠ .detached) (calm : ¬ inSweep s) (busy : atRest st = false)
    (here : st ≠ .detached) : Floored fresh P (enter s a st) := by
  have present := (h a).attended on attached
  have reached := (h a).reached (by rw [present]; rfl)
  rw [present] at reached
  have stands : Stands fresh .present (Machine.enter s a st) a := by
    rw [enter_eq_seat]
    exact .of_work (reached.kept .of_eq (by simp [seat]) (by simp [seat])) (by simpa using busy) (by simpa using here)
      calm
  exact (h.elsewhere a).set .of_eq (enter_stations s a st) (enter_presence s a st) (present ▸ stands)

/-- A station with a job, attached, goes to another such state. -/
theorem Floored.turn (a : Addr) (st : StationState) (busy : atRest (s.stations.get a).state = false)
    (attached : (s.stations.get a).state ≠ .detached) (works : atRest st = false) (here : st ≠ .detached) :
    Floored fresh P (Machine.enter s a st) :=
  h.enter a st (fun e => by rw [e] at busy; cases busy) attached ((h a).calm busy) works here

end

/-- A station takes the rest state that applies: what it was before does not count (R44). -/
theorem Elsewhere.seatRest {fresh : Prop} {P : Addr → Presence} {s : State} {a : Addr} (h : Elsewhere fresh P a s)
    (reached : Reached (P a) s a) (r : Station) (state : r.state = restState s a) : Floored fresh P (seat s a r) := by
  refine h.set .of_eq rfl rfl (.of_rest (reached.kept .of_eq (by simp [seat]) (by simp [seat])) ?_)
  rw [seat_station, state]
  exact (restState_congr (by simp [seat])).symm

/-- A PRESENT station takes a state with a job or an authorization: what it was before does not count. -/
theorem Elsewhere.seatWork {fresh : Prop} {P : Addr → Presence} {s : State} {a : Addr} (h : Elsewhere fresh P a s)
    (present : P a = .present) (reached : Reached (P a) s a) (r : Station) (busy : atRest r.state = false)
    (attached : r.state ≠ .detached) (calm : ¬ inSweep s) : Floored fresh P (seat s a r) := by
  have stands : Stands fresh .present (seat s a r) a := .of_work (present ▸ reached.kept .of_eq (by simp [seat])
    (by simp [seat])) (by simpa using busy) (by simpa using attached) calm
  exact h.set .of_eq rfl rfl (present ▸ stands)

section
variable {fresh : Prop} {P : Addr → Presence} {s : State} (h : Floored fresh P s)
include h

/-- A station takes the rest state that applies (R44). -/
theorem Floored.seatRest (a : Addr) (r : Station) (state : r.state = restState s a) : Floored fresh P (seat s a r) := by
  by_cases polled : isPolled (P a) = true
  · exact (h.elsewhere a).seatRest ((h a).reached polled) r state
  · have missing : P a = .absent ∨ P a = .conflict := by
      cases e : P a with
      | present | lost => rw [e] at polled; exact absurd rfl polled
      | absent => exact .inl rfl
      | conflict => exact .inr rfl
    have away : (s.presence.get a).state ≠ .present := fun e => by
      rcases missing with m | m <;> cases m.symm.trans ((h a).seen.symm.trans e)
    refine (h.elsewhere a).set .of_eq rfl rfl (.of_missing ?_ missing ?_ ?_ (h a).probe)
    · simpa [seat] using (h a).seen
    · simpa [state] using restState_present away
    · simpa [seat] using ((h a).missing missing).2.line _

theorem Floored.takeRest (a : Addr) : Floored fresh P (takeRest s a) := by
  rcases takeRest_cases s a with ⟨_, e⟩ | ⟨_, e⟩ <;> rw [e]
  · rw [enter_eq_seat]
    exact h.seatRest a _ rfl
  · exact h

/-! ### Notices and messages -/

theorem Floored.placeNotice (n : NoticeEntry) : Floored fresh P (placeNotice s n) := h.frame

theorem Floored.noticeLevel : Floored fresh P (noticeLevel s) := by
  obtain ⟨_, e⟩ := noticeLevel_eq s
  rw [e]
  exact h.frame

theorem Floored.forgetSent (a : Addr) (m : Message) : Floored fresh P (forgetSent s a m) := by
  rw [forgetSent_eq_forgot]
  exact h.frame (.of_forgot a [m])

theorem Floored.placeCardResult (a : Addr) (x : CardResult) (polled : isPolled (P a) = true) :
    Floored fresh P (placeCardResult s a x) := (h.forgetSent a .cardResult).setPresence a _ polled

theorem Floored.placeResume (a : Addr) (polled : isPolled (P a) = true) : Floored fresh P (placeResume s a) :=
  (h.forgetSent a .resume).setPresence a _ polled

theorem Floored.withdrawResume (a : Addr) (polled : isPolled (P a) = true) : Floored fresh P (withdrawResume s a) :=
  (h.forgetSent a .resume).setPresence a _ polled

theorem Floored.placeClosed (a : Addr) (x : Option JobClosed) (polled : isPolled (P a) = true) :
    Floored fresh P (placeClosed s a x) := by
  cases x with
  | none => exact h
  | some j => exact ((h.forgetSent a .jobClosed).forgetSent a .cardResult).setPresence a _ polled

theorem Floored.placePanel (a : Addr) (p : PanelPayload) (polled : isPolled (P a) = true) :
    Floored fresh P (placePanel s a p) := h.setPresence a _ polled

theorem Floored.clearToggle (a : Addr) (polled : isPolled (P a) = true) : Floored fresh P (clearToggle s a) :=
  h.setPresence a _ polled

theorem Floored.tickOrder (as : List Addr) : Floored fresh P (tickOrder s as) := by
  obtain ⟨k, e⟩ := tickOrder_eq s as
  rw [e]
  exact h.frame

theorem Floored.releaseAuthorization (a : Addr) : Floored fresh P (releaseAuthorization s a) := by
  obtain ⟨_, _, _, e⟩ := releaseAuthorization_eq s a
  rw [e]
  exact h.frame

end

theorem Floored.foldl {α : Type} {fresh : Prop} {P : Addr → Presence} {s : State} (h : Floored fresh P s)
    {f : State → α → State} (l : List α) (hf : ∀ s, ∀ x ∈ l, Floored fresh P s → Floored fresh P (f s x)) :
    Floored fresh P (l.foldl f s) :=
  List.foldlRecOn l f h fun s kept x mem => hf s x mem kept

end Sys2Proof.Machine

namespace Sys2Proof.Machine

set_option Elab.async false

/-! ### Retries and closes (R57, R85, R86, R89) -/

section
variable {fresh : Prop} {P : Addr → Presence} {s : State} (h : Floored fresh P s)
include h

theorem Floored.extend (a : Addr) (j : Job) : Floored fresh P (extend s a j) :=
  Floored.setJob (s := setAccount s j.account _) h.frame a _

theorem Floored.resumeStation (a : Addr) (held : (s.stations.get a).state = .held) :
    Floored fresh P (resumeStation s a) := by
  have on : isPolled (P a) = true := (h a).polled (by rw [held]; exact nofun)
  exact (((h.turn a .active (by rw [held]; rfl) (by rw [held]; exact nofun) rfl nofun).setStation a _).placeResume a
    on).refreshIdle a

theorem Floored.retryStation (a : Addr) : Floored fresh P (retryStation s a) := by
  unfold Machine.retryStation
  dsimp only
  split
  next j wanted held _ _ =>
    split
    · exact (h.extend a j).resumeStation a (by rw [extend_station]; exact held)
    · exact h
  next => exact h

theorem Floored.retryAccount (n : AccountNo) : Floored fresh P (retryAccount s n) := by
  refine h.foldl _ fun s a _ h => ?_
  split
  · exact h.retryStation a
  · exact h

theorem Floored.retryIfRisen (before : Int) (n : AccountNo) : Floored fresh P (retryIfRisen before s n) := by
  unfold Machine.retryIfRisen
  split
  · exact h.retryAccount n
  · exact h

end

theorem closed_station (s : State) (a : Addr) (why : EndReason) (j : Job) : (closed s a why j).stations.get a =
    { s.stations.get a with
      state := restState s a, job := none, remembered := none, pendingEnd := none, wanted := none, timer := none } :=
  Table.get_set_self ..

/-- A close but for its retries: whatever the station was before, its address may be polled (R57, R152). -/
theorem Elsewhere.closed {fresh : Prop} {P : Addr → Presence} {s : State} {a : Addr} (h : Elsewhere fresh P a s)
    (reached : Reached (P a) s a) (why : EndReason) (j : Job) :
    Floored fresh P (closed s a why j) := by
  have link : Linked s (Machine.closed s a why j) := .of_forgot a [.resume]
  refine h.set link rfl rfl (.of_rest ⟨?_, reached.polled, fun e => reached.probe (link.probe a e), ?_⟩ ?_)
  · simpa [Machine.closed] using reached.seen
  · simp only [Machine.closed, Table.get_set_self, reached.seen]
    split
    next lost => exact fun _ => lost
    next => exact reached.loss
  · rw [closed_station]
    exact (restState_congr (by simp [Machine.closed])).symm

/-- A close with its retries and its JOB CLOSED in the slot. -/
theorem Elsewhere.closedAway {fresh : Prop} {P : Addr → Presence} {s : State} {a : Addr} (h : Elsewhere fresh P a s)
    (reached : Reached (P a) s a) (why : EndReason) (j : Job) :
    Floored fresh P (closedAway s a why j) := by
  have off : Floored fresh P (settled s a why j) := by
    unfold settled
    split
    · exact (h.closed reached why j).retryAccount _
    · exact h.closed reached why j
  rw [Machine.closedAway, ← placeJobClosed_eq_closedSlot]
  exact off.placeClosed a (some _) reached.polled

section
variable {fresh : Prop} {P : Addr → Presence} {s : State} (h : Floored fresh P s)
include h

theorem Floored.closeJob (a : Addr) (why : EndReason) (on : (s.stations.get a).state ≠ .offline) :
    Floored fresh P (closeJob s a why true).1 := by
  cases hj : jobAt s a with
  | none => rwa [closeJob_eq_none hj]
  | some j =>
    have off := (h.elsewhere a).closed ((h a).reached ((h a).polled on)) why j
    rw [closeJob_eq_settled hj, settled]
    dsimp only
    split
    · exact off.retryAccount _
    · exact off

theorem Floored.closeToSlot (a : Addr) (why : EndReason) (on : (s.stations.get a).state ≠ .offline) :
    Floored fresh P (closeToSlot s a why) := (h.closeJob a why on).placeClosed a _ ((h a).polled on)

theorem Floored.beginClosing (a : Addr) (why : EndReason)
    (works : (s.stations.get a).state = .active ∨ (s.stations.get a).state = .held) :
    Floored fresh P (beginClosing s a why).1 := by
  have closing := h.turn a .closing (by rcases works with e | e <;> rw [e] <;> rfl)
    (by rcases works with e | e <;> rw [e] <;> exact nofun) rfl nofun
  have shut := closing.setStation a
    { (Machine.enter s a .closing).stations.get a with pendingEnd := some why, wanted := none }
  unfold Machine.beginClosing
  split
  next => exact h
  next =>
    dsimp only
    split
    · refine shut.closeJob a why ?_
      simp [enter_eq_seat, setStation_stations]
    · exact shut.startTimer a .drain

theorem Floored.beginClosingToSlot (a : Addr) (why : EndReason)
    (works : (s.stations.get a).state = .active ∨ (s.stations.get a).state = .held) :
    Floored fresh P (beginClosingToSlot s a why) :=
  (h.beginClosing a why works).placeClosed a _ ((h a).polled (by rcases works with e | e <;> rw [e] <;> exact nofun))

theorem Floored.forceClose (a : Addr) : Floored fresh P (forceClose s a) := by
  unfold Machine.forceClose
  split
  next e => exact h.beginClosingToSlot a _ (.inl e)
  next e => exact h.beginClosingToSlot a _ (.inr e)
  next e => exact h.closeToSlot a _ (by rw [e]; exact nofun)
  next e => exact h.closeToSlot a _ (by rw [e]; exact nofun)
  all_goals exact h

/-! ### Authorizations and grants (R22, R27, R29, R32) -/

theorem Floored.endAuthorization (a : Addr) : Floored fresh P (endAuthorization s a) := by
  rw [endAuthorization_eq_unauthorized]
  have released := h.releaseAuthorization a
  refine released.seatRest a _ ?_
  obtain ⟨_, _, _, e⟩ := releaseAuthorization_eq s a
  rw [e]
  exact restState_congr rfl

theorem Floored.declineToSlot (a : Addr) (why : DeclineReason) (polled : isPolled (P a) = true) :
    Floored fresh P (declineToSlot s a why) := (h.endAuthorization a).placeCardResult a _ polled

theorem Floored.goOnline (a : Addr) (card : AuthCard) (idle : (s.stations.get a).state = .idle) (calm : ¬ inSweep s) :
    Floored fresh P (goOnline s a card) := by
  have waits := (h.enter a .authorizing (by rw [idle]; exact nofun) (by rw [idle]; exact nofun) calm rfl
    nofun).setStation a
    { (Machine.enter s a .authorizing).stations.get a with authCard := some card }
  unfold Machine.goOnline
  dsimp only
  split
  · exact (waits.startTimer a .authorization).frame
  · exact (waits.startTimer a .authorization).frame

theorem Floored.grant (a : Addr) (n : AccountNo) (guest : Bool) (ceiling : Option Nat) (hold : Nat)
    (ready : (s.stations.get a).state = .idle ∨ (s.stations.get a).state = .authorizing) (calm : ¬ inSweep s) :
    Floored fresh P (grant s a n guest ceiling hold) := by
  have present := (h a).attended (by rcases ready with e | e <;> rw [e] <;> exact nofun)
    (by rcases ready with e | e <;> rw [e] <;> exact nofun)
  have reached := (h a).reached (by rw [present]; rfl)
  rw [present] at reached
  obtain ⟨_, opened⟩ := openJob_eq s a n guest ceiling hold
  rw [grant_eq_openJob, opened]
  exact Floored.refreshIdle ((h.elsewhere a).set .of_eq rfl rfl (present ▸ .of_work
    (reached.kept .of_eq (by simp) (by simp)) (by simp [atRest]) (by simp) calm)) a

end

end Sys2Proof.Machine

namespace Sys2Proof.Machine

set_option Elab.async false

/-! ### Station events (R23, R34, R48 to R57, R81, R96, R103, R106) -/

theorem goOnline_state (s : State) (a : Addr) (card : AuthCard) :
    ((goOnline s a card).stations.get a).state = .authorizing := by
  rw [goOnline_eq]
  split <;> simp [channelled, waiting]

theorem grant_state (s : State) (a : Addr) (n : AccountNo) (guest : Bool) (ceiling : Option Nat) (hold : Nat) :
    ((grant s a n guest ceiling hold).stations.get a).state = .active := by
  rw [grant_eq_granted, granted]
  exact (congrArg Station.state (seat_station ..)).trans (idled_state ..)

section
variable {fresh : Prop} {P : Addr → Presence} {s : State} (h : Floored fresh P s)
include h

theorem Floored.takeCard (n : Nat) (a : Addr) (calm : inSweep s → startsWork s (takeCard n s a).state a = false) :
    Floored fresh P (takeCard n s a).state := by
  by_cases idle : (s.stations.get a).state = .idle
  · rw [takeCard_of_idle idle] at calm ⊢
    have starts {t : State} (busy : isBusy (t.stations.get a).state = true) : startsWork s t a = true := by
      rw [startsWork, idle, busy]
      rfl
    unfold authorizeCard at calm ⊢
    dsimp only at calm ⊢
    cases verdict : localChecks s (lookupCard s n) <;> rw [verdict] at calm <;> dsimp only at calm ⊢
    case decline why => exact h.takeRest a
    case online =>
      refine h.goOnline a _ idle fun w => ?_
      have still := calm w
      rw [starts (by simp only [resultOf, goOnline_state]; rfl)] at still
      cases still
    case grant m ceiling hold =>
      refine h.grant a m false ceiling hold (.inl idle) fun w => ?_
      have still := calm w
      rw [starts (by simp only [resultOf, grant_state]; rfl)] at still
      cases still
  · unfold Machine.takeCard
    split
    next e => exact absurd e idle
    all_goals exact h

theorem Floored.takeCancel (a : Addr) : Floored fresh P (takeCancel s a).state := by
  unfold Machine.takeCancel
  split
  · exact h.endAuthorization a
  · exact h

theorem Floored.enterHeld (a : Addr) (wanted : Nat) (active : (s.stations.get a).state = .active) :
    Floored fresh P (enterHeld s a wanted) := by
  have still : (Machine.withdrawResume s a).stations = s.stations := by
    obtain ⟨_, e⟩ := withdrawResume_eq s a
    rw [e]
  have withdrawn := h.withdrawResume a ((h a).polled (by rw [active]; exact nofun))
  exact ((withdrawn.turn a .held (by rw [still, active]; rfl) (by rw [still, active]; exact nofun) rfl
    nofun).setStation a
    _).startTimer a .holdWait

theorem Floored.grantFeed (a : Addr) (j : Job) (e : InFlight) : Floored fresh P (grantFeed s a j e).state :=
  (h.setJob a _).stopTimer a

theorem Floored.holdCheck (a : Addr) (j : Job) (e : InFlight) (active : (s.stations.get a).state = .active) :
    Floored fresh P (holdCheck s a j e).state := by
  unfold Machine.holdCheck
  split
  · exact h.grantFeed a j e
  · split
    · exact (h.extend a j).grantFeed a _ e
    · exact h.enterHeld a _ active

theorem Floored.takeFeed (sheet : U16) (sides : Sides) (a : Addr) :
    Floored fresh P (takeFeed sheet sides s a).state := by
  unfold Machine.takeFeed
  split
  next active =>
    split
    · exact h
    · split
      · exact h
      · exact h.holdCheck a _ _ active
  all_goals exact h

theorem Floored.recordJam (a : Addr) (cause : JamCause) : Floored fresh P (recordJam s a cause) :=
  (Floored.setStation (s := meterJam s a) h.frame a _).placeNotice _

theorem Floored.enterJammed (a : Addr) (busy : atRest (s.stations.get a).state = false)
    (attached : (s.stations.get a).state ≠ .detached) : Floored fresh P (enterJammed s a) :=
  ((h.turn a .jammed busy attached rfl nofun).setStation a _).startTimer a .jam

theorem Floored.takeJam (cause : JamCause) (a : Addr) : Floored fresh P (takeJam cause s a).state := by
  have counted := h.recordJam a cause
  have state : ((Machine.recordJam s a cause).stations.get a).state = (s.stations.get a).state := by
    rw [recordJam_station]
  unfold Machine.takeJam
  dsimp only
  split
  next e => exact counted.enterJammed a (by rw [state, e]; rfl) (by rw [state, e]; exact nofun)
  next e => exact counted.enterJammed a (by rw [state, e]; rfl) (by rw [state, e]; exact nofun)
  next e => exact counted.closeJob a _ (by rw [state, e]; exact nofun)
  all_goals exact counted

theorem Floored.takeMatching (a : Addr) (j : Job) (e : InFlight) (rest : List InFlight)
    (on : (s.stations.get a).state ≠ .offline) : Floored fresh P (takeMatching s a j e rest).state := by
  have delivered : Floored fresh P (Machine.setJob (countSheet s a j.service e) a (deliverEntry j e rest)) :=
    Floored.setJob (s := countSheet s a j.service e) h.frame a _
  unfold Machine.takeMatching
  dsimp only
  split
  · exact delivered.closeJob a _ (by simpa [Machine.setJob, countSheet] using on)
  · exact delivered

theorem Floored.matchDelivery (sheet : U16) (a : Addr) (on : (s.stations.get a).state ≠ .offline) :
    Floored fresh P (matchDelivery sheet s a).state := by
  unfold Machine.matchDelivery
  split
  · exact h
  · split
    · exact h.takeJam .order a
    · split
      · exact h.takeMatching a _ _ _ on
      · exact h.takeJam .order a

theorem Floored.takeDelivered (sheet : U16) (a : Addr) : Floored fresh P (takeDelivered sheet s a).state := by
  unfold Machine.takeDelivered
  split
  next e => exact h.matchDelivery sheet a (by rw [e]; exact nofun)
  next e => exact h.matchDelivery sheet a (by rw [e]; exact nofun)
  next e => exact h.matchDelivery sheet a (by rw [e]; exact nofun)
  next => exact h.takeJam .order a
  all_goals exact h

theorem Floored.takeRecovered (restart : U16) (a : Addr) : Floored fresh P (takeRecovered restart s a).state := by
  unfold Machine.takeRecovered
  dsimp only
  split
  next j jammed _ =>
    split
    · exact h
    · split
      · exact h
      · have restarted : Floored fresh P (Machine.setJob (meterWriteOff s a (restartWriteOff j restart.val)) a
            (restartJob j restart.val)) := Floored.setJob (s := meterWriteOff s a _) h.frame a _
        have state : ((Machine.setJob (meterWriteOff s a (restartWriteOff j restart.val)) a
            (restartJob j restart.val)).stations.get a).state = .jammed := by
          simp [Machine.setJob, meterWriteOff, jammed]
        exact ((restarted.turn a .active (by rw [state]; rfl) (by rw [state]; exact nofun) rfl nofun).refreshIdle
          a).placeNotice _
  next => exact h

theorem Floored.takeStatus (f : EngineFlags) (a : Addr) : Floored fresh P (takeStatus f s a).state := by
  unfold Machine.takeStatus plainAnswer
  dsimp only
  split
  · exact h.setStation a _
  · exact (h.setStation a _).placeNotice _

theorem Floored.takeFinish (a : Addr) : Floored fresh P (takeFinish s a).state := by
  unfold Machine.takeFinish
  split
  next e => exact h.beginClosing a _ (.inl e)
  next e => exact h.beginClosing a _ (.inr e)
  next e => exact h.closeJob a _ (by rw [e]; exact nofun)
  all_goals exact h

end

end Sys2Proof.Machine

namespace Sys2Proof.Machine

set_option Elab.async false

/-! ### An address left for a while -/

section
variable {fresh : Prop} {P : Addr → Presence} {s : State} {a : Addr}

/-- What is written at the address left out does not count at the others. -/
theorem Elsewhere.put (h : Elsewhere fresh P a s) {t : State} {r : Station} {q : PresenceRecord} (link : Linked s t)
    (stations : t.stations = s.stations.set a r) (presence : t.presence = s.presence.set a q)
    (enable : t.adminEnable = s.adminEnable := by rfl) (mode : t.mode = s.mode := by rfl) : Elsewhere fresh P a t := by
  intro b ne
  have same : t.presence.get b = s.presence.get b := by rw [presence, Table.get_set_ne _ _ ne.symm]
  exact (h b ne).same link (by rw [stations, Table.get_set_ne _ _ ne.symm]) same
    (restState_congr (by rw [same]) enable mode)

theorem Elsewhere.setPresence (h : Elsewhere fresh P a s) (x : PresenceRecord) :
    Elsewhere fresh P a (setPresence s a x) := h.put .of_eq (Table.set_get ..).symm rfl

theorem Elsewhere.setStation (h : Elsewhere fresh P a s) (x : Station) :
    Elsewhere fresh P a (setStation s a x) := h.put .of_eq rfl (Table.set_get ..).symm

/-- The presence of the address left out may be any. -/
theorem Elsewhere.update (h : Elsewhere fresh P a s) (p : Presence) :
    Elsewhere fresh (Function.update P a p) a s := fun b ne => by
  rw [Function.update_of_ne ne]
  exact h b ne

/-- A station at rest, left out for a while, takes the rest state that applies. -/
theorem Elsewhere.takeRest (h : Elsewhere fresh P a s) (reached : Reached (P a) s a)
    (rest : atRest (s.stations.get a).state = true) : Floored fresh P (takeRest s a) := by
  rw [takeRest_of_atRest rest]
  exact h.seatRest reached _ rfl

/-- The end of an authorization at an address left out for a while. -/
theorem Elsewhere.declineToSlot (h : Elsewhere fresh P a s) (reached : Reached (P a) s a) (why : DeclineReason) :
    Floored fresh P (declineToSlot s a why) := by
  obtain ⟨_, _, _, e⟩ := releaseAuthorization_eq s a
  have left : Elsewhere fresh P a (releaseAuthorization s a) := by
    rw [e]
    exact h.put .of_eq (Table.set_get ..).symm (Table.set_get ..).symm
  have still : Reached (P a) (releaseAuthorization s a) a := by
    rw [e]
    exact reached.kept .of_eq rfl id
  rw [Machine.declineToSlot, endAuthorization_eq_unauthorized]
  refine (left.seatRest still _ ?_).placeCardResult a _ reached.polled
  rw [e]
  exact restState_congr rfl

/-- A LOST station with a job is DETACHED, and remembers the state it had (R59). -/
theorem Elsewhere.seatDetached (h : Elsewhere fresh P a s) (lost : P a = .lost) (reached : Reached (P a) s a)
    (r : Station)
    (detached : r.state = .detached) (recalled : Recalled r.remembered) (calm : ¬ inSweep s)
    (stopped : (s.presence.get a).lossTimer = none) : Floored fresh P (seat s a r) := by
  have still := reached.kept (t := seat s a r) .of_eq (by simp [seat]) (by simp [seat])
  exact h.set .of_eq rfl rfl {
    seen := still.seen
    rest := fun _ rest => by rw [seat_station, detached] at rest; cases rest
    present := fun e => by cases lost.symm.trans e
    lost := fun _ => .inr (by rw [seat_station, detached])
    missing := fun e => by rcases e with e | e <;> cases lost.symm.trans e
    detached := fun _ => by rwa [seat_station]
    sweep := fun w => absurd w calm
    probe := fun e => absurd e reached.probe
    loss := fun e => by rw [seat, Table.get_set_self, stopped] at e; cases e }

/-- The loss timer starts at a LOST address whose station is OFFLINE (R152). -/
theorem Floored.startLossTimer (h : Floored fresh P s) (lost : P a = .lost)
    (off : (s.stations.get a).state = .offline) : Floored fresh P (startLossTimer s a) := by
  have reached := (h a).reached (by rw [lost]; rfl)
  have seen : ((Machine.startLossTimer s a).presence.get a).state = P a := by
    simpa [Machine.startLossTimer] using reached.seen
  refine (h.elsewhere a).set (r := s.stations.get a) .of_eq (Table.set_get ..).symm rfl
    (.of_rest ⟨seen, reached.polled, reached.probe, fun _ => lost⟩ ?_)
  exact off.trans (restState_present (by rw [seen, lost]; exact nofun)).symm

end

/-! ### Sweeps and probes (R148 to R150) -/

theorem sweepDecision_cases (x y : FirstReply) : (∃ token, sweepDecision x y = (.present, some token))
    ∨ ∃ p, (p = .absent ∨ p = .conflict) ∧ sweepDecision x y = (p, none) := by
  cases x with
  | bad => exact .inr ⟨_, .inr rfl, rfl⟩
  | missed => cases y with
    | bad => exact .inr ⟨_, .inr rfl, rfl⟩
    | missed | hello => exact .inr ⟨_, .inl rfl, rfl⟩
  | hello t => cases y with
    | bad => exact .inr ⟨_, .inr rfl, rfl⟩
    | missed => exact .inr ⟨_, .inl rfl, rfl⟩
    | hello u =>
      by_cases same : t = u
      · exact .inl ⟨u, if_pos same⟩
      · exact .inr ⟨.conflict, .inr rfl, if_neg same⟩

section
variable {fresh : Prop} {P : Addr → Presence} {s : State} (h : Floored fresh P s)
include h

theorem Floored.endExchange : Floored fresh P (endExchange s) := by
  unfold Machine.endExchange
  dsimp only
  split
  next asked => exact h.frame ⟨fun _ => .inl (by rw [asked]; exact nofun), nofun⟩
  next => exact h.frame ⟨fun w => .inl (w.resolve_right nofun), nofun⟩

theorem Floored.nextTurn (a : Addr) (sweeping : inSweep s) : Floored fresh P (nextTurn s a) := by
  unfold Machine.nextTurn
  split
  · exact h.frame ⟨fun _ => sweeping, nofun⟩
  · exact h.frame ⟨fun _ => sweeping, nofun⟩

/-- An address found PRESENT (R148, R150). -/
theorem Floored.foundPresent (a : Addr) (token : U16) (caps : Capabilities)
    (rest : atRest (s.stations.get a).state = true) (probe : s.awaiting ≠ .probe a) :
    Floored fresh (Function.update P a .present) (foundPresent s a token caps) := by
  have at_present : isPolled (Function.update P a .present a) = true := by rw [Function.update_self]; rfl
  unfold Machine.foundPresent
  dsimp only
  have left := ((h.elsewhere a).setPresence { s.presence.get a with
    state := .present, token := some token, capabilities := caps, misses := 0, toggle := none
    lastAnswer := none, lossTimer := none }).update .present
  split
  · exact left.takeRest ⟨by simp, at_present, probe, by simp⟩ rest
  · exact (left.setStation _).takeRest ⟨by simp, at_present, probe, by simp⟩ (by simpa using rest)

/-- An address found ABSENT or CONFLICT (R147, R148, R152). -/
theorem Floored.foundMissing (a : Addr) (p : Presence) (missing : p = .absent ∨ p = .conflict)
    (rest : atRest (s.stations.get a).state = true) (probe : s.awaiting = .probe a → p = .absent) :
    Floored fresh (Function.update P a p) (foundMissing s a p) := by
  have seen : ((Machine.setPresence s a (clearedRecord (s.presence.get a) p)).presence.get a).state = p := by
    simp [clearedRecord]
  have away : p ≠ .present := by rcases missing with e | e <;> rw [e] <;> exact nofun
  rw [Machine.foundMissing, takeRest_of_atRest (by simpa using rest)]
  refine (((h.elsewhere a).setPresence _).update p).set .of_eq rfl rfl ?_
  rw [Function.update_self]
  refine .of_missing ?_ missing ?_ ?_ probe
  · simpa [seat] using seen
  · simpa using restState_present (by rw [seen]; exact away)
  · simp only [seat, Table.get_set_self, setPresence_presence]
    exact rfl

/-- The outcome of an address's turn in a sweep (R148). -/
theorem Floored.sweepOutcome (a : Addr) (x y : FirstReply) (caps : Capabilities)
    (rest : atRest (s.stations.get a).state = true) (probe : s.awaiting ≠ .probe a) :
    ∃ Q, Floored fresh Q (sweepOutcome s a x y caps) := by
  unfold Machine.sweepOutcome
  rcases sweepDecision_cases x y with ⟨token, e⟩ | ⟨p, missing, e⟩ <;> rw [e]
  · exact ⟨_, h.foundPresent a token caps rest probe⟩
  · rcases missing with rfl | rfl
    · exact ⟨_, h.foundMissing a .absent (.inl rfl) rest fun w => absurd w probe⟩
    · exact ⟨_, h.foundMissing a .conflict (.inr rfl) rest fun w => absurd w probe⟩

end

theorem takeRest_awaiting (s : State) (a : Addr) : (takeRest s a).awaiting = s.awaiting := by
  rw [takeRest_eq]
  split <;> rfl

theorem sweepOutcome_awaiting (s : State) (a : Addr) (x y : FirstReply) (caps : Capabilities) :
    (sweepOutcome s a x y caps).awaiting = s.awaiting := by
  unfold sweepOutcome
  split
  · rw [foundPresent, takeRest_awaiting]
    split <;> rfl
  · rw [foundMissing, takeRest_awaiting]
    rfl

theorem takeRest_with_awaiting (s : State) (w : Awaiting) (a : Addr) :
    takeRest { s with awaiting := w } a = { takeRest s a with awaiting := w } := by
  rw [takeRest_eq, takeRest_eq]
  by_cases rest : atRest (s.stations.get a).state = true
  · rw [if_pos rest, if_pos rest]
    rfl
  · rw [if_neg rest, if_neg rest]

/-- An address found PRESENT does not read the reply awaited. -/
theorem foundPresent_with_awaiting (s : State) (w : Awaiting) (a : Addr) (token : U16) (caps : Capabilities) :
    foundPresent { s with awaiting := w } a token caps = { foundPresent s a token caps with awaiting := w } := by
  rw [foundPresent, foundPresent, ← takeRest_with_awaiting]
  refine congrArg (takeRest · a) ?_
  dsimp only
  split <;> rfl

section
variable {fresh : Prop} {P : Addr → Presence} {s : State} (h : Floored fresh P s)
include h

theorem Floored.probeTurn (x : Option ProbeReply) : ∃ Q, Floored fresh Q (probeTurn s x) := by
  unfold Machine.probeTurn
  split
  next a awaited => exact ⟨P, h.frame ⟨fun _ => .inr (by rw [awaited]; rfl), nofun⟩⟩
  next a first awaited =>
    have sweeping : inSweep s := .inr (by rw [awaited]; rfl)
    obtain ⟨Q, decided⟩ := h.sweepOutcome a first (judgeProbe a Config.patternTwo x) (replyCaps x)
      ((h a).sweep sweeping) (by rw [awaited]; exact nofun)
    exact ⟨Q, decided.nextTurn a (.inr (by rw [sweepOutcome_awaiting, awaited]; rfl))⟩
  next a awaited =>
    split
    next token _ =>
      have still : Floored fresh P { s with awaiting := .none } :=
        h.frame ⟨fun w => .inl (w.resolve_right nofun), nofun⟩
      have off : (s.stations.get a).state = .offline := ((h a).missing (.inl ((h a).probe awaited))).1
      have found := still.foundPresent a token (replyCaps x) (by rw [off]; rfl) nofun
      rw [foundPresent_with_awaiting] at found
      exact ⟨_, found.endExchange⟩
    next => exact ⟨P, h.endExchange⟩
  next => exact ⟨P, h⟩
  next => exact ⟨P, h⟩

/-! ### Loss and return (R59, R60, R151, R152) -/

/-- A PRESENT address becomes LOST, and its station goes to DETACHED or OFFLINE. -/
theorem Floored.lose (a : Addr) (present : P a = .present) :
    Floored fresh (Function.update P a .lost)
      (loseStation (Machine.setPresence s a { s.presence.get a with state := .lost, misses := 3 }) a) := by
  have reached := (h a).reached (by rw [present]; rfl)
  have stopped : (s.presence.get a).lossTimer = none :=
    Option.not_isSome_iff_eq_none.1 fun l => by cases present.symm.trans (reached.loss l)
  have left := ((h.elsewhere a).setPresence { s.presence.get a with state := .lost, misses := 3 }).update .lost
  have lost : Function.update P a .lost a = .lost := Function.update_self ..
  have still : Reached (Function.update P a .lost a)
      (Machine.setPresence s a { s.presence.get a with state := .lost, misses := 3 }) a :=
    ⟨by simp, by rw [lost]; rfl, reached.probe, fun _ => lost⟩
  generalize placed : Machine.setPresence s a { s.presence.get a with state := .lost, misses := 3 } = t at left still ⊢
  have station : t.stations.get a = s.stations.get a := by rw [← placed]; rfl
  have off {u : State} (e : u.stations.get a = { s.stations.get a with state := .offline, timer := none }) :
      (u.stations.get a).state = .offline := by rw [e]
  have away : restState t a = .offline := restState_present (by rw [still.seen, lost]; exact nofun)
  have detaches (busy : (s.stations.get a).state = .active ∨ (s.stations.get a).state = .held
      ∨ (s.stations.get a).state = .jammed ∨ (s.stations.get a).state = .closing) :
      Floored fresh (Function.update P a .lost) (loseStation t a) := by
    rw [loseStation_of_open (by rwa [station])]
    refine left.seatDetached lost still _ rfl ?_ ?_ ?_
    · rw [station, Recalled]
      simpa using busy
    · rw [← placed]
      exact (h a).calm (by rcases busy with e | e | e | e <;> rw [e] <;> rfl)
    · rw [← placed]
      simpa using stopped
  have rests (rest : (s.stations.get a).state = .idle ∨ (s.stations.get a).state = .disabled
      ∨ (s.stations.get a).state = .offline) : Floored fresh (Function.update P a .lost) (loseStation t a) := by
    rw [loseStation_of_rest (by rwa [station])]
    exact (left.seatRest still { t.stations.get a with state := .offline, timer := none } away.symm).startLossTimer lost
      (by simp)
  cases state : (s.stations.get a).state with
  | active => exact detaches (.inl state)
  | held => exact detaches (.inr (.inl state))
  | jammed => exact detaches (.inr (.inr (.inl state)))
  | closing => exact detaches (.inr (.inr (.inr state)))
  | idle => exact rests (.inl state)
  | disabled => exact rests (.inr (.inl state))
  | offline => exact rests (.inr (.inr state))
  | detached => exact absurd state ((h a).present present)
  | authorizing =>
    rw [show loseStation t a = Machine.startLossTimer (Machine.declineToSlot t a .stationLost) a by
      simp only [loseStation, station, state]]
    refine (left.declineToSlot still .stationLost).startLossTimer lost ?_
    rw [declineToSlot_eq_slotted, slotted]
    exact (congrArg Station.state (unauthorized_station t a)).trans away

/-- A miss at the address of a visit (R151). -/
theorem Floored.missPoll (a : Addr) : ∃ Q, Floored fresh Q (missPoll s a) := by
  unfold Machine.missPoll
  dsimp only
  split
  next e =>
    have present : P a = .present := (h a).seen.symm.trans e
    split
    · exact ⟨_, h.lose a present⟩
    · exact ⟨P, h.setPresence a _ (by rw [present]; rfl)⟩
  next e =>
    have lost : P a = .lost := (h a).seen.symm.trans e
    exact ⟨P, h.setPresence a _ (by rw [lost]; rfl)⟩
  all_goals exact ⟨P, h⟩

/-- A valid reply of a polled address is heard, and a LOST station comes back (R60, R151, R152). -/
theorem Floored.cameBack (a : Addr) (sent : Option Message) (polled : isPolled (P a) = true) :
    Floored fresh (Function.update P a .present) (cameBack s a sent) := by
  have reached := (h a).reached polled
  have present : Function.update P a .present a = .present := Function.update_self ..
  have left : Elsewhere fresh (Function.update P a .present) a (heard s a sent) :=
    ((h.elsewhere a).setPresence _).update .present
  have still : Reached (Function.update P a .present a) (heard s a sent) a :=
    ⟨by rw [present]; exact (heard_record s a sent).1, by rw [present]; rfl, reached.probe,
      fun l => by rw [heard_presence] at l; cases l⟩
  cases e : P a with
  | present =>
    rw [cameBack_of_present ((h a).seen.trans e),
      show Function.update P a .present = P by rw [← e]; exact Function.update_eq_self ..]
    have stopped : (s.presence.get a).lossTimer.isSome = false :=
      Bool.eq_false_iff.2 fun l => by cases e.symm.trans (reached.loss l)
    exact h.setPresence a _ polled ((h a).seen.trans e).symm stopped.symm
  | lost =>
    have lost : (s.presence.get a).state = .lost := (h a).seen.trans e
    rcases (h a).lost e with off | detached
    · rw [cameBack_of_rest lost (by rw [off]; rfl)]
      exact left.seatRest still _ rfl
    · obtain ⟨active, held, jammed, closing⟩ := cameBack_of_detached (sent := sent) lost detached
      have calm : ¬ inSweep (heard s a sent) := (h a).calm (by rw [detached]; rfl)
      rcases (h a).detached detached with m | m | m | m
      · rw [active m]
        exact left.seatWork present still _ (by rw [idled_state]; rfl)
          (by rw [idled_state]; exact (nofun : StationState.active ≠ .detached)) calm
      · rw [held m]
        exact Floored.retryStation (left.seatWork present still _ rfl (by exact nofun) calm) a
      · rw [jammed m]
        exact left.seatWork present still _ rfl nofun calm
      · rw [closing m]
        exact left.seatWork present still _ rfl nofun calm
  | absent => rw [e] at polled; cases polled
  | conflict => rw [e] at polled; cases polled

/-- A HELLO with a new token: the station restarts, whatever it was before (R61, R153). -/
theorem Floored.restarted (law : StationLaw s) (a : Addr) (sent : Option Message) (polled : isPolled (P a) = true)
    (token : U16) (caps : Capabilities) : Floored fresh (Function.update P a .present) (restartStation
      (Machine.setPresence (heard s a sent) a { (heard s a sent).presence.get a with
        token := some token, capabilities := caps, toggle := none, lastAnswer := none }) a) := by
  have reached := (h a).reached polled
  have present : Function.update P a .present a = .present := Function.update_self ..
  have hears : Elsewhere fresh P a (heard s a sent) := (h.elsewhere a).setPresence _
  have left := (hears.setPresence { (heard s a sent).presence.get a with
    token := some token, capabilities := caps, toggle := none, lastAnswer := none }).update .present
  have still : Reached (Function.update P a .present a) (Machine.setPresence (heard s a sent) a
      { (heard s a sent).presence.get a with
        token := some token, capabilities := caps, toggle := none, lastAnswer := none }) a :=
    ⟨by simpa [present] using (heard_record s a sent).1, by rw [present]; rfl, reached.probe,
      fun l => by simp [heard_presence] at l⟩
  generalize placed : Machine.setPresence (heard s a sent) a { (heard s a sent).presence.get a with
    token := some token, capabilities := caps, toggle := none, lastAnswer := none } = t at left still ⊢
  have station : t.stations.get a = s.stations.get a := by rw [← placed]; rfl
  have job : jobAt t a = jobAt s a := by rw [jobAt, station, jobAt]
  have closes (opened : hasOpenJob (s.stations.get a).state = true) :
      Floored fresh (Function.update P a .present) (restartStation t a) := by
    obtain ⟨j, hj⟩ := Option.isSome_iff_exists.1 ((law.job a).trans opened)
    rw [restartStation_of_open (by rwa [station]) (job.trans hj)]
    exact (left.closedAway still .stationReset j).setStation a _
  have rests (rest : atRest (s.stations.get a).state = true) :
      Floored fresh (Function.update P a .present) (restartStation t a) := by
    rw [restartStation_of_rest (by rwa [station])]
    exact (left.seatRest still _ rfl).setStation a _
  cases state : (s.stations.get a).state with
  | active | held | jammed | closing | detached => exact closes (by rw [state]; rfl)
  | offline | disabled | idle => exact rests (by rw [state]; rfl)
  | authorizing =>
    rw [restartStation_of_authorizing (by rwa [station]), ← declineToSlot_eq_slotted]
    exact (left.declineToSlot still .stationReset).setStation a _

/-! ### Replies to a POLL (R146, R151, R153, R154) -/

/-- A HELLO of a polled address. -/
theorem Floored.takeHello (law : StationLaw s) (a : Addr) (sent : Option Message) (polled : isPolled (P a) = true)
    (token : U16) (caps : Capabilities) : Floored fresh (Function.update P a .present)
      (takeHello token caps a ((s.presence.get a).state == .lost) (heard s a sent)) := by
  by_cases known : ((heard s a sent).presence.get a).token = some token
  · rw [takeHello_of_known caps _ known, returnIf_eq_cameBack]
    exact (h.cameBack a sent polled).clearToggle a (by rw [Function.update_self]; rfl)
  · rw [takeHello_of_new caps _ known]
    exact h.restarted law a sent polled token caps

end

/-- Nothing but the message of the visit is forgotten as a station comes back. -/
theorem cameBack_linked (s : State) (a : Addr) (sent : Option Message) :
    (cameBack s a sent).sweep = s.sweep ∧ ((cameBack s a sent).awaiting = s.awaiting
      ∨ (cameBack s a sent).awaiting = forgot s.awaiting a [.resume]) := by
  unfold cameBack
  dsimp only
  split
  · split
    · exact ⟨rfl, .inl rfl⟩
    · split
      · split
        next => exact ⟨rfl, .inl rfl⟩
        next =>
          rcases retryStation_cases (seat (heard s a sent) a { s.stations.get a with
            state := .held, remembered := none, timer := some ⟨.holdWait, settingOf s.timers .holdWait⟩ }) a with
            e | ⟨j, _, _, _, _, _, e⟩ <;> rw [e]
          · exact ⟨rfl, .inl rfl⟩
          · exact ⟨rfl, .inr rfl⟩
        all_goals exact ⟨rfl, .inl rfl⟩
      · exact ⟨rfl, .inl rfl⟩
  · exact ⟨rfl, .inl rfl⟩

/-- The taking of an event keeps the law, and a sweep asked for keeps it from starting work (R149, R154). -/
def Heeds (ju : State → Addr → EventResult) : Prop :=
  ∀ {fresh : Prop} {P : Addr → Presence} {s : State} (a : Addr), Floored fresh P s →
    (inSweep s → startsWork s (ju s a).state a = false) → Floored fresh P (ju s a).state

theorem Floored.sendAnswer {fresh : Prop} {P : Addr → Presence} {s : State} (h : Floored fresh P s) (a : Addr)
    (x : Answer)
    (polled : isPolled (P a) = true) : Floored fresh P (sendAnswer s a x) := by
  have kept := h.setPresence a { s.presence.get a with toggle := some x.toggle, lastAnswer := some x } polled
  exact kept.frame

theorem Floored.repeatAnswer {fresh : Prop} {P : Addr → Presence} {s : State} (h : Floored fresh P s) (a : Addr) :
    Floored fresh P (repeatAnswer s a) := by
  unfold Machine.repeatAnswer
  split
  · exact h.frame
  · exact h

/-- An EVENT of a polled address (R154). -/
theorem Floored.takeEvent {fresh : Prop} {P : Addr → Presence} {s : State} (h : Floored fresh P s) (toggle : Bool)
    (kind : EventKind) {ju : State → Addr → EventResult} (heeds : Heeds ju) (a : Addr) (polled : isPolled (P a) = true)
    (visit : awaitsSweep s.awaiting = false) : Floored fresh P (takeEvent toggle kind ju a false s) := by
  simp only [Machine.takeEvent, returnIf, Bool.false_eq_true, if_false]
  split
  · exact h.repeatAnswer a
  · split
    next => exact h
    next taken =>
      refine ((heeds a h fun w => ?_).refreshIdle a).sendAnswer a _ polled
      have swept : s.sweep ≠ .idle := w.resolve_right (by rw [visit]; exact nofun)
      simpa [swept] using taken

/-- A valid frame in whatever window stands, `f` being told what the station came back to. -/
theorem Floored.stationReply {fresh : Prop} {P : Addr → Presence} {s : State} (h : Floored fresh P s) (addr : Nat)
    (f : Addr → Bool → State → State)
    (hf : ∀ a sent, s.awaiting = .poll a sent → isPolled (P a) = true →
      ∃ Q, Floored fresh Q (f a ((s.presence.get a).state == .lost) (heard s a sent))) :
    ∃ Q, Floored fresh Q (stationReply addr s f) := by
  unfold Machine.stationReply
  split
  next a sent awaited =>
    have replied : ∃ Q, Floored fresh Q
        (if addr = floorNumber a then validReply s a sent (f a) else Machine.missPoll s a) := by
      split
      · unfold validReply
        dsimp only
        split
        next polled => exact hf a sent awaited ((h a).seen ▸ polled)
        next => exact ⟨P, h⟩
      · exact h.missPoll a
    obtain ⟨Q, replied⟩ := replied
    exact ⟨Q, replied.endExchange⟩
  next => exact h.probeTurn _
  next => exact h.probeTurn _
  next => exact h.probeTurn _
  next => exact ⟨P, h⟩

section
variable {fresh : Prop} {P : Addr → Presence} {s : State} (h : Floored fresh P s)
include h

theorem Floored.event (addr : Nat) (toggle : Bool) (kind : EventKind) {ju : State → Addr → EventResult}
    (heeds : Heeds ju) : ∃ Q, Floored fresh Q (Machine.stationReply addr s (Machine.takeEvent toggle kind ju)) := by
  refine h.stationReply addr _ fun a sent awaited polled => ⟨Function.update P a .present, ?_⟩
  rw [takeEvent_eq_returned, returnIf_eq_cameBack]
  refine (h.cameBack a sent polled).takeEvent toggle kind heeds a (by rw [Function.update_self]; rfl) ?_
  obtain ⟨_, e | e⟩ := cameBack_linked s a sent <;> rw [e, awaited]
  · rfl
  · unfold forgot
    split <;> (try split) <;> rfl

theorem Floored.garbled : ∃ Q, Floored fresh Q (garbled s) := by
  unfold Machine.garbled
  split
  next a _ _ =>
    obtain ⟨Q, replied⟩ := h.missPoll a
    exact ⟨Q, replied.endExchange⟩
  next => exact h.probeTurn _

theorem Floored.missed : ∃ Q, Floored fresh Q (missed s) := by
  unfold Machine.missed
  split
  next a _ _ =>
    obtain ⟨Q, replied⟩ := h.missPoll a
    exact ⟨Q, replied.endExchange⟩
  next => exact h.probeTurn _

end

end Sys2Proof.Machine

namespace Sys2Proof.Machine

set_option Elab.async false

/-! ### Requests that touch no station, or retry (R6 to R21, R85, R124, R149, R161 to R164) -/

section
variable {fresh : Prop} {P : Addr → Presence} {s : State} (h : Floored fresh P s)
include h

theorem Floored.applyAdjust (n : AccountNo) (delta : Int) (reason : Nat) :
    Floored fresh P (applyAdjust n delta reason s).state := by
  unfold Machine.applyAdjust
  dsimp only [accept]
  refine Floored.noticeLevel ?_
  split
  · exact Floored.retryAccount (s := writeRecord (setAccount s n _) _) h.frame n
  · exact h.frame

theorem Floored.adjustAccount (account : Nat) (delta : Int) (reason : Nat) :
    Floored fresh P (adjustAccount account delta reason s).state := by
  unfold Machine.adjustAccount
  split
  · exact h
  · split
    · exact h
    · split
      · exact h
      · split
        · exact h
        · exact h.applyAdjust _ delta reason

theorem Floored.acknowledgeJournal (sequence : Nat) : Floored fresh P (acknowledgeJournal sequence s).state := by
  unfold Machine.acknowledgeJournal
  split
  · exact h
  · split
    · exact h
    · dsimp only
      split
      · exact h
      · exact h.frame

theorem Floored.writeAccount (p : AccountPayload) : Floored fresh P (writeAccount p s).state := by
  unfold Machine.writeAccount
  split
  · split
    · exact h
    · dsimp only
      split
      · exact h
      · exact h.frame
  · exact h

theorem Floored.setAccountLimits (account : Nat) (limit plan discount : Option Nat) (rights : Option Byte) :
    Floored fresh P (setAccountLimits account limit plan discount rights s).state := by
  unfold Machine.setAccountLimits
  split
  next n _ _ _ _ _ =>
    dsimp only
    split
    · exact h
    · exact Floored.retryIfRisen (s := setAccount s n _) h.frame _ n
  next => exact h

theorem Floored.setAccountStatus (account status : Nat) :
    Floored fresh P (setAccountStatus account status s).state := by
  unfold Machine.setAccountStatus
  split
  · unfold unloadAccount
    dsimp only
    split
    · exact h
    · split
      · exact h
      · exact h.frame
  next n st _ _ _ =>
    unfold changeStatus
    dsimp only
    split
    · exact h
    · split
      · exact h
      · have changed : Floored fresh P (setAccount s n { s.accounts.get n with status := st }) := h.frame
        dsimp only [accept]
        split
        · exact changed.retryAccount n
        · exact changed
  next => exact h

theorem Floored.changedAccounts : Floored fresh P (changedAccounts s).state := by
  simp only [Machine.changedAccounts, accept_state]
  exact h.foldl _ fun _ _ _ h => h.frame

theorem Floored.writeCard (p : CardPayload) : Floored fresh P (writeCard p s).state := by
  unfold Machine.writeCard
  split
  · split
    · exact h
    · split
      · exact h
      · exact h.frame
  · exact h

theorem Floored.removeCard (card : Nat) : Floored fresh P (removeCard card s).state := by
  unfold Machine.removeCard
  split
  · exact h
  · split
    · exact h
    · exact h.frame

theorem Floored.writePlan (p : PlanPayload) : Floored fresh P (writePlan p s).state := by
  unfold Machine.writePlan
  split
  · split
    · exact h
    · split
      · exact h
      · exact h.frame
  · exact h

theorem Floored.openWindow (table start count : Nat) : Floored fresh P (openWindow table start count s).state := by
  unfold Machine.openWindow
  split
  · exact h
  · split
    · exact h
    · exact h.frame

theorem Floored.windowWrite (t : WindowTable) (index : Nat) (record : WindowRecord) (x : Reply)
    (hx : windowWrite t index record s = some x) : Floored fresh P x.state := by
  unfold Machine.windowWrite at hx
  split at hx
  next p =>
    cases hx
    split
    · exact h.writeAccount p
    · exact h
  next p =>
    cases hx
    exact h.writeCard p
  next p =>
    cases hx
    split
    · exact h.writePlan p
    · exact h
  next => cases hx

theorem Floored.windowData (index : Nat) (record : WindowRecord) :
    Floored fresh P (windowData index record s).state := by
  unfold Machine.windowData
  split
  next => exact h
  next w _ =>
    split
    · exact h
    · split
      next => exact h.frame
      next x hx => exact (h.windowWrite w.table index record x hx).frame

theorem Floored.panelText (dest : Nat) (p : PanelPayload) : Floored fresh P (panelText dest p s).state := by
  have polled {t : State} (kept : Floored fresh P t) {a : Addr} (room : panelRoom t a = true) : isPolled (P a) = true :=
    (kept a).seen ▸ (Bool.and_eq_true_iff.1 room).1
  unfold Machine.panelText
  split
  · exact h.frame
  · split
    · exact h
    · split
      · refine h.foldl _ fun t a mem kept => kept.placePanel a p (polled h (List.mem_filter.1 mem).2)
      · split
        next a _ =>
          unfold panelToOne
          split
          · exact h
          · split
            next room => exact h.placePanel a p (polled h room)
            next => exact h
        next => exact h

theorem Floored.presetMeters (addr : Nat) (v : Meters (Option Nat)) :
    Floored fresh P (presetMeters addr v s).state := by
  unfold Machine.presetMeters
  split
  · exact h
  · split
    · exact h
    · exact h.frame

theorem Floored.setFreeVend (value : Nat) : Floored fresh P (setFreeVend value s).state := by
  unfold Machine.setFreeVend
  split
  · exact h
  · exact h.frame

theorem Floored.rescanFloor : Floored fresh P (rescanFloor s).state := by
  have asked {t : State} (stations : t.stations = s.stations) (presence : t.presence = s.presence)
      (enable : t.adminEnable = s.adminEnable) (mode : t.mode = s.mode)
      (probe : ∀ a, t.awaiting = .probe a → s.awaiting = .probe a)
      (rest : ∀ a, atRest (s.stations.get a).state = true) : Floored fresh P t := fun a =>
    { (h a).same (t := { t with sweep := s.sweep, awaiting := s.awaiting }) .of_eq (by rw [stations]) (by rw [presence])
        (restState_congr (by rw [presence]) enable mode) with
      sweep := fun _ => by rw [stations]; exact rest a
      probe := fun e => (h a).probe (probe a e) }
  unfold Machine.rescanFloor
  split
  next => exact h
  next free =>
    have rest (a : Addr) : atRest (s.stations.get a).state = true := by
      have quiet : allAddrs.any (fun a => isBusy (s.stations.get a).state) = false := by
        cases e : allAddrs.any fun a => isBusy (s.stations.get a).state with
        | false => rfl
        | true => rw [e] at free; exact absurd rfl free
      simpa [isBusy_eq] using List.any_eq_false.1 quiet a (mem_allAddrs a)
    split
    · exact asked rfl rfl rfl rfl nofun rest
    · exact asked rfl rfl rfl rfl (fun _ => id) rest

/-! ### Verdicts, forced closes and settings (R35 to R39, R58, R142, R145) -/

theorem Floored.approveAccount (law : StationLaw s) (tag account : Nat) (hold : Option Nat) :
    Floored fresh P (approveAccount tag account hold s).state := by
  unfold Machine.approveAccount
  split
  · split
    · exact h
    · split
      next => exact h
      next r matched =>
        have waits := (law.holder r.station).2 (.inl (holdsChannel_of_matchTag matched))
        have polled := (h r.station).polled (by rw [waits]; exact nofun)
        split
        · exact h.declineToSlot r.station _ polled
        · exact (h.grant r.station _ false _ _ (.inr waits) ((h r.station).calm (by rw [waits]; rfl))).placeCardResult
            r.station _ polled
  · exact h

theorem Floored.approveGuest (law : StationLaw s) (tag amount plan : Nat) (rights : Byte) :
    Floored fresh P (approveGuest tag amount plan rights s).state := by
  unfold Machine.approveGuest
  split
  · split
    · exact h
    · split
      next => exact h
      next r matched =>
        have waits := (law.holder r.station).2 (.inl (holdsChannel_of_matchTag matched))
        have polled := (h r.station).polled (by rw [waits]; exact nofun)
        split
        · exact h.declineToSlot r.station _ polled
        next n _ =>
          have filled (x : Account) : Floored fresh P (setAccount s n x) := h.frame
          exact ((filled _).grant r.station n true none _ (.inr waits)
            ((h r.station).calm (by rw [waits]; rfl))).placeCardResult r.station _ polled
  · exact h

theorem Floored.declineAnswer (law : StationLaw s) (tag reason : Nat) :
    Floored fresh P (declineAnswer tag reason s).state := by
  unfold Machine.declineAnswer
  split
  · split
    · exact h
    · split
      next => exact h
      next r matched =>
        have waits := (law.holder r.station).2 (.inl (holdsChannel_of_matchTag matched))
        exact h.declineToSlot r.station _ ((h r.station).polled (by rw [waits]; exact nofun))
  · exact h

theorem Floored.endJob (addr : Nat) : Floored fresh P (endJob addr s).state := by
  unfold Machine.endJob
  split
  next => exact h
  next a _ =>
    split
    iterate 3 next => exact h
    next e => exact h.declineToSlot a _ ((h a).polled (by rw [e]; exact nofun))
    iterate 4 next => exact h.forceClose a
    next => exact h

/-- After a change of mode the law stands but for the rest states. -/
theorem Floored.stale (m : ShopMode) : Floored False P { s with mode := m } := fun a =>
  ⟨(h a).seen, False.elim, (h a).present, (h a).lost, (h a).missing, (h a).detached, (h a).sweep, (h a).probe,
    (h a).loss⟩

/-- A change of mode neither into nor out of CLOSED leaves the rest states (R139). -/
theorem Floored.moded (m : ShopMode) (within : crossesClosed s.mode m = false) :
    Floored fresh P { s with mode := m } := by
  have same : (s.mode == .closed) = (m == .closed) := by simpa [crossesClosed] using within
  have enable (a : Addr) : effectiveEnable { s with mode := m } a = effectiveEnable s a := by
    simp only [effectiveEnable, bne, same]
  refine fun a => { h.stale m a with rest := fun f r => ?_ }
  rw [restState, enable]
  exact (h a).rest f r

theorem Floored.endAuthorizations : Floored fresh P (endAuthorizations s) := by
  unfold Machine.endAuthorizations
  have emptied : Floored fresh P { s with waitQueue := [] } := h.frame
  refine emptied.foldl _ fun t a mem kept => kept.declineToSlot a .mode ?_
  have waits : (s.stations.get a).state = .authorizing := by simpa [authorizingAddrs] using (List.mem_filter.1 mem).2
  exact (h a).polled (by rw [waits]; exact nofun)

theorem Floored.forceAll (as : List Addr) : Floored fresh P (forceAll s as) :=
  (h.tickOrder as).foldl _ fun _ a _ kept => kept.forceClose a

/-- Rest states taken at every address are up to date. -/
theorem Floored.restAll : Floored True P (allAddrs.foldl Machine.takeRest s) := by
  have rested := rested_foldl allAddrs_nodup s
  have kept : Floored fresh P (allAddrs.foldl Machine.takeRest s) := h.foldl _ fun _ a _ h => h.takeRest a
  refine fun a => { kept a with rest := fun _ rest => ?_ }
  rw [rested.restState a]
  by_cases calm : atRest (s.stations.get a).state = true
  · rw [(rested.rests a (mem_allAddrs a) calm).1]
  · rw [(rested.others a (.inr (Bool.eq_false_iff.2 calm))).1] at rest
    exact absurd rest calm

end

theorem Floored.changeMode {P : Addr → Presence} {s : State} (h : Floored True P s) (m : ShopMode) :
    Floored True P (changeMode m s).state := by
  change Floored True P (if crossesClosed s.mode m then
    allAddrs.foldl Machine.takeRest (Machine.forceAll (Machine.endAuthorizations { s with mode := m }) _)
    else Machine.forceAll (Machine.endAuthorizations { s with mode := m }) _)
  split
  next => exact ((h.stale m).endAuthorizations.forceAll _).restAll
  next within => exact (h.moded m (Bool.eq_false_iff.2 within)).endAuthorizations.forceAll _

theorem Floored.setMode {P : Addr → Presence} {s : State} (h : Floored True P s) (mode : Nat) :
    Floored True P (setMode mode s).state := by
  unfold Machine.setMode
  split
  · exact h
  · split
    · exact h
    · exact h.changeMode _

/-! ### SET STATION ENABLE (R145) -/

/-- Setting an admin enable leaves every rest state but DISABLED, clearing it every one but IDLE. -/
theorem restState_enabled {s : State} {a : Addr} (b : Bool) (same : restState s a ≠ if b then .disabled else .idle) :
    restState { s with adminEnable := s.adminEnable.set a b } a = restState s a := by
  by_cases present : (s.presence.get a).state = .present
  · refine restState_of_enable rfl ?_
    rw [restState, if_pos present] at same
    cases b with
    | true =>
      have enabled : effectiveEnable s a = true := by
        by_contra off
        exact same (if_neg off)
      rw [enabled]
      simp only [effectiveEnable, Bool.and_eq_true] at enabled
      simp [effectiveEnable, present, enabled.1.2]
    | false =>
      have disabled : effectiveEnable s a = false := Bool.eq_false_iff.2 fun on => same (if_pos on)
      rw [disabled]
      simp [effectiveEnable]
  · rw [restState_present present]
    exact restState_present present

/-- The admin enable of an address replaced: the others do not see it. -/
theorem Elsewhere.enabled {fresh : Prop} {P : Addr → Presence} {s : State} {a : Addr} (h : Elsewhere fresh P a s)
    (b : Bool) :
    Elsewhere fresh P a { s with adminEnable := s.adminEnable.set a b } := fun c ne =>
  (h c ne).same .of_eq rfl rfl (by
    have kept : (s.adminEnable.set a b).get c = s.adminEnable.get c := Table.get_set_ne _ _ ne.symm
    exact restState_of_enable rfl (by simp only [effectiveEnable, kept]))

section
variable {P : Addr → Presence} {s : State} (h : Floored True P s)
include h

/-- The admin enable of an address replaced where its station has no rest state to change. -/
theorem Floored.enabled (a : Addr) (b : Bool) (still : atRest (s.stations.get a).state = true →
      restState { s with adminEnable := s.adminEnable.set a b } a = restState s a) :
    Floored True P { s with adminEnable := s.adminEnable.set a b } :=
  ((h.elsewhere a).enabled b).change .of_eq
    { h a with rest := fun f r => ((h a).rest f r).trans (still r).symm } fun _ _ => ⟨rfl, rfl, rfl⟩

theorem Floored.setStationEnable (addr value : Nat) : Floored True P (setStationEnable addr value s).state := by
  unfold Machine.setStationEnable
  split
  next a b _ _ =>
    split
    · exact h
    · have left := (h.elsewhere a).enabled b
      have kept (other : (s.stations.get a).state ≠ if b then .disabled else .idle) :
          Floored True P { s with adminEnable := s.adminEnable.set a b } :=
        h.enabled a b fun rest => restState_enabled b ((h a).rest trivial rest ▸ other)
      have rests (on : (s.stations.get a).state ≠ .offline) (rest : atRest (s.stations.get a).state = true) :
          Floored True P (Machine.takeRest { s with adminEnable := s.adminEnable.set a b } a) :=
        left.takeRest (((h a).reached ((h a).polled on)).kept .of_eq rfl id) rest
      cases b with
      | true =>
        change Floored True P (enableStation { s with adminEnable := s.adminEnable.set a true } a)
        unfold enableStation
        split
        next e => exact rests (by rw [e]; exact nofun) (by rw [e]; rfl)
        next other => exact kept other
      | false =>
        change Floored True P (disableStation { s with adminEnable := s.adminEnable.set a false } a)
        unfold disableStation
        split
        next e => exact kept (by rw [e]; exact nofun)
        next e => exact kept (by rw [e]; exact nofun)
        next e => exact rests (by rw [e]; exact nofun) (by rw [e]; rfl)
        next e => exact (kept (by rw [e]; exact nofun)).declineToSlot a _ ((h a).polled (by rw [e]; exact nofun))
        iterate 4 next e => exact (kept (by rw [e]; exact nofun)).forceClose a
        next e => exact kept (by rw [e]; exact nofun)
  next => exact h

end

end Sys2Proof.Machine

namespace Sys2Proof.Machine

set_option Elab.async false

/-! ### One second, visits and resets (R63, R150, R165, R174) -/

section
variable {fresh : Prop} {P : Addr → Presence} {s : State} (h : Floored fresh P s)
include h

theorem Floored.countDown (a : Addr) : Floored fresh P (countDown s a) :=
  (h.elsewhere a).set .of_eq rfl rfl ((h a).kept .of_eq (by simp [countDown_eq, countedStation])
    (by simp [countDown_eq, countedStation]) (by simp [countDown_eq, countedPresence])
    (by simp [countDown_eq, countedPresence])
    (fun _ clear => by rw [countDown_eq, Table.get_set_self, clear]; rfl)
    (restState_congr (by simp [countDown_eq, countedPresence])))

theorem Floored.tick : Floored fresh P (tick s) := by
  unfold Machine.tick
  split
  · exact h
  · dsimp only
    generalize allAddrs.filter (fun a => !(dueExpiries s a).isEmpty) = due
    have counted := (h.tickOrder due).foldl allAddrs fun _ a _ h => h.countDown a
    generalize allAddrs.foldl Machine.countDown (Machine.tickOrder s due) = t at counted ⊢
    exact counted.frame

/-- The rotation's probe goes to an ABSENT address (R150). -/
theorem Floored.probeAddr (a : Addr) (due : dueProbe s = some a) (free : flcFree s = true) :
    Floored fresh P (probeAddr s a) := by
  have absent : P a = .absent := by
    have listed : a ∈ absentAddrs s := by
      unfold dueProbe at due
      split at due
      next => cases due
      next =>
        dsimp only at due
        split at due
        next b above =>
          cases due
          exact List.mem_of_find?_eq_some above
        next => exact List.mem_of_mem_head? due
    exact (h a).seen.symm.trans (by simpa [absentAddrs] using (List.mem_filter.1 listed).2)
  have idle : s.sweep = .idle := eq_of_beq (Bool.and_eq_true_iff.1 free).1
  have unswept {t : State} (sweep : t.sweep = s.sweep) (awaiting : awaitsSweep t.awaiting = false) : ¬ inSweep t :=
    not_or.2 ⟨not_not.2 (sweep.trans idle), by rw [awaiting]; exact nofun⟩
  refine fun b => { (h b).same (t := { Machine.probeAddr s a with awaiting := .none })
    ⟨fun w => absurd w (unswept rfl rfl), nofun⟩ rfl rfl (restState_congr rfl) with
    sweep := fun w => absurd w (unswept rfl rfl)
    probe := fun e => ?_ }
  cases e
  exact absent

theorem Floored.noticeSent (e : NoticeEntry) : Floored fresh P (noticeSent s e) := by
  cases e with
  | stationStatus a => exact h.setStation a _
  | authRequest _ => exact h
  | journalLevel => exact h

end

/-- After a FULL reset every address is ABSENT (R147, R165). -/
theorem floored_fullReset (s : State) : ∃ P, Floored True P (fullReset s) := by
  obtain ⟨_, P, h⟩ := floorLaw_iff.1 floorLaw_reset
  exact ⟨P, h.frame⟩

/-- A floor taken down meets the law, whatever it was (R63). -/
theorem floored_floorDown (s : State) : Floored True (fun _ => .absent) (floorDown s) := fun a =>
  have record : (floorDown s).presence.get a = PresenceRecord.reset := Table.get_fill ..
  have station : (floorDown s).stations.get a = Station.reset := Table.get_fill ..
  .of_missing (by rw [record]; rfl) (.inl rfl) (by rw [station]; rfl) (by rw [record]; rfl) nofun

/-! ### Every command -/

theorem floored_of_whenRunning {s t : State} {f : State → State} (ht : whenRunning s f = .next t)
    (h : ∃ P, Floored True P s) (hf : ∃ P, Floored True P (f s)) : ∃ P, Floored True P t := by
  unfold whenRunning at ht
  cases ht
  split
  · exact h
  · exact hf

theorem floored_of_request {k : OfficeKind} {req : Nat} {s t : State} {f : State → Reply}
    (ht : request k req s f = .next t) {P : Addr → Presence} (h : Floored True P s)
    (hf : ∀ u, Floored True P u → Floored True P (f u).state) : ∃ P, Floored True P t :=
  floored_of_whenRunning ht ⟨P, h⟩ ⟨P, (hf { s with window := none } h.frame).frame⟩

theorem floored_of_verdict {k : OfficeKind} {req : Nat} {s t : State} {f : State → Reply}
    (ht : request k req s f = .next t) {P : Addr → Presence} (law : StationLaw s) (h : Floored True P s)
    (hf : ∀ u, StationLaw u → Floored True P u → Floored True P (f u).state) : ∃ P, Floored True P t := by
  have shut : Move s { s with window := none } := .links ⟨rfl, rfl, rfl, rfl, rfl, rfl, rfl, rfl, rfl, rfl, rfl⟩
  exact floored_of_whenRunning ht ⟨P, h⟩ ⟨P, (hf _ (law.move shut) h.frame).frame⟩

theorem floored_of_expire {k : TimerKind} {addr : Nat} {s t : State} {f : State → Addr → State}
    (ht : expire k addr s f = .next t) {P : Addr → Presence} (h : Floored True P s)
    (hf : ∀ a : Addr, (s.stations.get a).state = timerState k → Floored True P (f s a)) : ∃ P, Floored True P t := by
  refine floored_of_whenRunning ht ⟨P, h⟩ ⟨P, ?_⟩
  unfold atAddr
  split
  next a _ =>
    dsimp only
    split
    next runs => exact hf a (eq_of_beq (Bool.and_eq_true_iff.1 runs).1)
    next => exact h
  next => exact h

/-- Every command keeps the law of the floor. -/
theorem exec_keeps_floored {c : Instr} {s t : State} (ht : exec c s = .next t) (law : StationLaw s)
    {P : Addr → Presence}
    (h : Floored True P s) : ∃ Q, Floored True Q t := by
  have event (addr : Nat) (toggle : Bool) (kind : EventKind) {ju : State → Addr → EventResult}
      (ht : whenRunning s (fun s => stationReply addr s (takeEvent toggle kind ju)) = .next t) (heeds : Heeds ju) :
      ∃ Q, Floored True Q t := floored_of_whenRunning ht ⟨P, h⟩ (h.event addr toggle kind heeds)
  cases c with
  | identify _ => exact floored_of_request ht h fun _ h => h
  | readStatus _ => exact floored_of_request ht h fun _ h => h
  | readStation _ addr =>
    refine floored_of_request ht h fun _ h => ?_
    unfold readStation
    split <;> exact h
  | writeAccount _ p => exact floored_of_request ht h fun _ h => h.writeAccount p
  | setAccountLimits _ n l p d x => exact floored_of_request ht h fun _ h => h.setAccountLimits n l p d x
  | setAccountStatus _ n st => exact floored_of_request ht h fun _ h => h.setAccountStatus n st
  | readAccount _ _ =>
    refine floored_of_request ht h fun _ h => ?_
    unfold readAccount
    split <;> exact h
  | changedAccounts _ => exact floored_of_request ht h fun _ h => h.changedAccounts
  | adjustAccount _ n d why => exact floored_of_request ht h fun _ h => h.adjustAccount n d why
  | writeCard _ p => exact floored_of_request ht h fun _ h => h.writeCard p
  | removeCard _ n => exact floored_of_request ht h fun _ h => h.removeCard n
  | readCard _ _ =>
    refine floored_of_request ht h fun _ h => ?_
    unfold readCard
    split
    · exact h
    · split <;> exact h
  | writePlan _ p => exact floored_of_request ht h fun _ h => h.writePlan p
  | readPlan _ _ =>
    refine floored_of_request ht h fun _ h => ?_
    unfold readPlan
    split <;> exact h
  | approveAccount _ tag n hold => exact floored_of_verdict ht law h fun _ law h => h.approveAccount law tag n hold
  | approveGuest _ tag n p x => exact floored_of_verdict ht law h fun _ law h => h.approveGuest law tag n p x
  | decline _ tag why => exact floored_of_verdict ht law h fun _ law h => h.declineAnswer law tag why
  | endJob _ addr => exact floored_of_request ht h fun _ h => h.endJob addr
  | setTimers _ v =>
    rw [exec, execSetTimers] at ht
    exact floored_of_request ht h fun _ h => h.frame
  | readJournal _ => exact floored_of_request ht h fun _ h => h
  | acknowledgeJournal _ n => exact floored_of_request ht h fun _ h => h.acknowledgeJournal n
  | readMeters _ _ =>
    refine floored_of_request ht h fun _ h => ?_
    unfold readMeters
    split <;> exact h
  | presetMeters _ addr v => exact floored_of_request ht h fun _ h => h.presetMeters addr v
  | setMode _ m => exact floored_of_request ht h fun _ h => h.setMode m
  | setFreeVend _ v => exact floored_of_request ht h fun _ h => h.setFreeVend v
  | setStationEnable _ addr v => exact floored_of_request ht h fun _ h => h.setStationEnable addr v
  | rescanFloor _ => exact floored_of_request ht h fun _ h => h.rescanFloor
  | pause _ =>
    rw [exec, execPause] at ht
    exact floored_of_request ht h fun _ h => h.frame
  | unpause _ =>
    rw [exec, execUnpause] at ht
    exact floored_of_request ht h fun _ h => h.frame
  | openWindow _ x y z => exact floored_of_request ht h fun _ h => h.openWindow x y z
  | windowData _ n x =>
    rw [exec, execWindowData] at ht
    exact floored_of_whenRunning ht ⟨P, h⟩ ⟨P, (h.windowData n x).frame⟩
  | resetFull _ =>
    rw [exec, execResetFull] at ht
    obtain ⟨Q, after⟩ := floored_fullReset (sendAll { s with window := none })
    exact floored_of_whenRunning ht ⟨P, h⟩ ⟨Q, after.frame⟩
  | resetFloor _ =>
    rw [exec, execResetFloor] at ht
    exact floored_of_whenRunning ht ⟨P, h⟩ ⟨_, (floored_floorDown _).frame⟩
  | panelText _ dest p =>
    rw [exec, execPanelText] at ht
    exact floored_of_whenRunning ht ⟨P, h⟩ ⟨P, (h.panelText dest p).frame⟩
  | discardedFrame =>
    rw [exec, execDiscardedFrame] at ht
    exact floored_of_whenRunning ht ⟨P, h⟩ ⟨P, h⟩
  | badRequestFrame dest kind _ =>
    rw [exec, execBadRequestFrame] at ht
    refine floored_of_whenRunning ht ⟨P, h⟩ ⟨P, ?_⟩
    split
    · exact h.frame
    · exact h.frame
  | resetPinAssert =>
    obtain ⟨Q, after⟩ := floored_fullReset s
    cases ht
    exact ⟨Q, after.frame ⟨fun w => (w.elim (absurd rfl) nofun), nofun⟩⟩
  | resetPinRelease =>
    cases ht
    split
    · exact floored_fullReset s
    · exact ⟨P, h⟩
  | sendResponse =>
    rw [exec, execSendResponse] at ht
    refine floored_of_whenRunning ht ⟨P, h⟩ ⟨P, ?_⟩
    split
    · exact h
    · exact h.frame
  | sendNotice =>
    rw [exec, execSendNotice] at ht
    refine floored_of_whenRunning ht ⟨P, h⟩ ⟨P, ?_⟩
    split
    · exact h
    · split
      next => exact h
      next e q _ =>
        have sent : Floored True P { s with notices := q, officeTx := [.notice (readNotice s e)] } := h.frame
        exact sent.noticeSent e
  | visit =>
    rw [exec, execVisit] at ht
    refine floored_of_whenRunning ht ⟨P, h⟩ ⟨P, ?_⟩
    split
    · split
      next free _ a _ => exact h.frame ⟨fun w => .inl (w.resolve_right nofun), nofun⟩
      next => exact h
    · exact h
  | absentProbe =>
    rw [exec, execAbsentProbe] at ht
    refine floored_of_whenRunning ht ⟨P, h⟩ ⟨P, ?_⟩
    split
    next free =>
      split
      next a due => exact h.probeAddr a due free
      next => exact h
    next => exact h
  | sweepReply x =>
    rw [exec, execSweepReply] at ht
    refine floored_of_whenRunning ht ⟨P, h⟩ ?_
    split
    · exact h.probeTurn _
    · exact ⟨P, h⟩
  | probeReply x =>
    rw [exec, execProbeReply] at ht
    refine floored_of_whenRunning ht ⟨P, h⟩ ?_
    split
    · exact h.probeTurn _
    · exact ⟨P, h⟩
  | nothing addr =>
    rw [exec, execNothing] at ht
    refine floored_of_whenRunning ht ⟨P, h⟩ (h.stationReply addr _ fun a sent _ polled =>
      ⟨Function.update P a .present, ?_⟩)
    rw [returnIf_eq_cameBack]
    exact h.cameBack a sent polled
  | hello addr token caps =>
    rw [exec, execHello] at ht
    exact floored_of_whenRunning ht ⟨P, h⟩ (h.stationReply addr _ fun a sent _ polled =>
      ⟨_, h.takeHello law a sent polled token caps⟩)
  | garbledReply =>
    rw [exec, execGarbledReply] at ht
    exact floored_of_whenRunning ht ⟨P, h⟩ h.garbled
  | missedReply =>
    rw [exec, execMissedReply] at ht
    exact floored_of_whenRunning ht ⟨P, h⟩ h.missed
  | card addr toggle n =>
    rw [exec, execCard] at ht
    refine floored_of_whenRunning ht ⟨P, h⟩ ?_
    split
    · exact h.event addr toggle .card fun a h calm => h.takeCard n a calm
    · exact h.garbled
  | cancel addr toggle =>
    rw [exec, execCancel] at ht
    exact event addr toggle .cancel ht fun a h _ => h.takeCancel a
  | feed addr toggle n x =>
    rw [exec, execFeed] at ht
    exact event addr toggle .feed ht fun a h _ => h.takeFeed n x a
  | delivered addr toggle n =>
    rw [exec, execDelivered] at ht
    exact event addr toggle .delivered ht fun a h _ => h.takeDelivered n a
  | jam addr toggle x =>
    rw [exec, execJam] at ht
    exact event addr toggle .jam ht fun a h _ => h.takeJam _ a
  | recovered addr toggle n =>
    rw [exec, execRecovered] at ht
    exact event addr toggle .recovered ht fun a h _ => h.takeRecovered n a
  | status addr toggle f =>
    rw [exec, execStatus] at ht
    exact event addr toggle .status ht fun a h _ => h.takeStatus f a
  | finish addr toggle =>
    rw [exec, execFinish] at ht
    exact event addr toggle .finish ht fun a h _ => h.takeFinish a
  | authorizationTimerExpiry _ =>
    rw [exec, execAuthorizationTimerExpiry] at ht
    exact floored_of_expire ht h fun a waits => h.declineToSlot a _ ((h a).polled (by rw [waits]; exact nofun))
  | idleTimerExpiry _ =>
    rw [exec, execIdleTimerExpiry] at ht
    exact floored_of_expire ht h fun a works => h.beginClosingToSlot a _ (.inl works)
  | holdWaitTimerExpiry _ =>
    rw [exec, execHoldWaitTimerExpiry] at ht
    exact floored_of_expire ht h fun a works => h.beginClosingToSlot a _ (.inr works)
  | jamTimerExpiry _ =>
    rw [exec, execJamTimerExpiry] at ht
    exact floored_of_expire ht h fun a works => h.closeToSlot a _ (by rw [works]; exact nofun)
  | drainTimerExpiry _ =>
    rw [exec, execDrainTimerExpiry] at ht
    exact floored_of_expire ht h fun a works => h.closeToSlot a _ (by rw [works]; exact nofun)
  | reconnectGraceExpiry _ =>
    rw [exec, execReconnectGraceExpiry] at ht
    exact floored_of_expire ht h fun a works => h.closeToSlot a _ (by rw [works]; exact nofun)
  | lossTimerExpiry addr =>
    rw [exec, execLossTimerExpiry] at ht
    refine floored_of_whenRunning ht ⟨P, h⟩ ?_
    unfold atAddr
    split
    next a _ =>
      dsimp only
      split
      next due => exact ⟨_, h.foundMissing a .absent (.inl rfl) (by rw [((h a).loss due.2).2]; rfl) fun _ => rfl⟩
      next => exact ⟨P, h⟩
    next => exact ⟨P, h⟩

/-- Settles O58: the law stands at every address before and after, and the stations keep theirs. -/
theorem stepKeepsTheFloorLaw : Obligations.StepKeepsTheFloorLaw := by
  intro s t law taken
  obtain ⟨stations, P, h⟩ := floorLaw_iff.1 law
  refine floorLaw_iff.2 ⟨stepKeepsTheStationLaw s t stations taken, ?_⟩
  unfold step at taken
  split at taken
  next =>
    cases taken
    exact ⟨P, h.tick⟩
  next c rest _ =>
    have queued : Move s { s with pending := rest } := .links ⟨rfl, rfl, rfl, rfl, rfl, rfl, rfl, rfl, rfl, rfl, rfl⟩
    exact exec_keeps_floored taken (stations.move queued) h.frame

end Sys2Proof.Machine

namespace Sys2Proof.Machine

set_option Elab.async false

/-! ## FEED (R46 to R50, R64 to R72, R80 to R82) -/

/-- A new EVENT is taken by the job unit on the state that heard it, and answered (R53, R154). -/
theorem whenRunning_event {s : State} {a : Addr} {sent : Option Message} {toggle : Bool} (h : Taking s a sent toggle)
    (kind : EventKind) {ju : State → Addr → EventResult} {r : EventResult} (result : ju (heard s a sent) a = r)
    (idle : r.state.sweep = .idle) :
    whenRunning s (fun s => stationReply (a.val + 1) s (takeEvent toggle kind ju)) =
      .next (taken (refreshIdle r.state a) a ⟨toggle, kind, r.outcome, r.attached⟩) := by
  rw [whenRunning_eq _ _ h.1.1, stationReply_of_taking h kind result idle]

/-- An EVENT that changes no state is answered, and the idle timer follows R53. -/
theorem whenRunning_plain {s : State} {a : Addr} {sent : Option Message} {toggle : Bool} (h : Taking s a sent toggle)
    (kind : EventKind) {ju : State → Addr → EventResult} {o : AnswerOutcome}
    (result : ju (heard s a sent) a = plainAnswer (heard s a sent) o) :
    whenRunning s (fun s => stationReply (a.val + 1) s (takeEvent toggle kind ju)) =
      .next (taken (setStation (heard s a sent) a (idled s.timers (s.stations.get a))) a ⟨toggle, kind, o, .none⟩) := by
  refine (whenRunning_event h kind result h.1.2.2.2).trans ?_
  rw [refreshIdle_eq_idled]
  rfl

theorem heard_capabilities (s : State) (a : Addr) (sent : Option Message) :
    ((heard s a sent).presence.get a).capabilities = (s.presence.get a).capabilities := by
  rw [heard_eq, Table.get_set_self]

/-! ### The entry of a sheet (R50, R66 to R68, R70) -/

theorem feedEntry_sheet (s : State) (j : Job) (n : Nat) (sides : Sides) : (feedEntry s j n sides).sheet = n := by
  unfold feedEntry
  split <;> cases sides <;> rfl

/-- The sides in flight that took an ordinal, entry by entry (R66). -/
theorem length_filter_takesOrdinal (l : List InFlight) : ((l.flatMap entrySides).filter takesOrdinal).length =
    (l.map fun e => ((entrySides e).filter takesOrdinal).length).sum := by
  induction l with
  | nil => rfl
  | cons e l ih => rw [List.flatMap_cons, List.filter_append, List.length_append, ih, List.map_cons, List.sum_cons]

theorem takesOrdinal_iff (d : Side) : takesOrdinal d = true ↔ d.kind = .priced ∨ d.kind = .service := by
  unfold takesOrdinal
  cases d.kind <;> simp

theorem length_filter_entrySides (e : InFlight) : ((entrySides e).filter takesOrdinal).length =
    (if e.one.kind = .priced ∨ e.one.kind = .service then 1 else 0)
      + match e.two with
        | some d => if d.kind = .priced ∨ d.kind = .service then 1 else 0
        | none => 0 := by
  simp only [entrySides, ← List.countP_eq_length_filter, List.countP_cons, takesOrdinal_iff]
  rw [Nat.add_comm]
  cases e.two with
  | none => rfl
  | some d => simp [takesOrdinal_iff]

/-- A side's price kind by service job and free vend, and its price by kind and tier (R67, R68). -/
theorem priceSide_eq (p : Plan) (service freeVend : Bool) (c : ImpClass) (i : Nat) :
    let kind : PriceKind := if service then .service else if freeVend then .free else .priced
    priceSide p service freeVend c i = (if kind = .priced then tierRate p i (classGet p.rates c) else 0, kind) := by
  cases service with
  | true => rfl
  | false => cases freeVend <;> rfl

/-- Settles O26: the ordinals taken are counted side by side, and each side is priced by its tier. -/
theorem feedEntryIsPriced : Obligations.FeedEntryIsPriced := by
  intro s j n one two p k rate kind
  have ordinal : nextOrdinal j = k := by
    simp only [nextOrdinal, length_filter_takesOrdinal, length_filter_entrySides, classSum]
    rfl
  have side (c : ImpClass) (i : Nat) : priceSide (s.plans.get j.plan) j.service s.freeVend c i =
      (if kind = .priced then rate c i else 0, kind) := priceSide_eq ..
  refine ⟨fun old => ⟨if_pos old, if_pos old⟩, fun new => ⟨?_, ?_⟩⟩
  · rw [feedEntry, if_neg (Nat.not_le.2 new), newEntry, ordinal]
    simp only [side]
  · rw [feedEntry, if_neg (Nat.not_le.2 new), newEntry, ordinal]
    simp only [side]
    split <;> rfl

/-! ### The checks of a FEED (R48, R49, R64, R65) -/

theorem feedRefusal_eq (s : State) (a : Addr) (j : Job) (n : Nat) (sides : Sides) : feedRefusal s a j n sides =
    if n ≠ j.nextFeed then some (.sequence j.nextFeed)
    else if (sideClasses sides).any (fun c => !classGet (s.presence.get a).capabilities c) then some .cls
    else if (sideClasses sides).any (fun c => !rightsAdmit j.rights c) then some .rights
    else if 65535 < n then some .limit
    else if 8 ≤ j.inFlight.length then some .pathFull
    else none := by
  simp only [feedRefusal, List.not_all_eq_any_not]
  rfl

theorem takeFeed_of_active {s : State} {a : Addr} {j : Job} (active : (s.stations.get a).state = .active)
    (hj : jobAt s a = some j) (sheet : U16) (sides : Sides) : takeFeed sheet sides s a =
      (feedRefusal s a j (feedNumber sheet) sides).elim (holdCheck s a j (feedEntry s j (feedNumber sheet) sides))
        fun r => plainAnswer s (.refused r) := by
  have job : (s.stations.get a).job = some j := hj
  simp only [takeFeed, active, job]
  cases feedRefusal s a j (feedNumber sheet) sides <;> rfl

/-- A FEED that passes the five checks comes to the hold check (R49, R50, R72). -/
theorem takeFeed_of_passed {s : State} {a : Addr} {sent : Option Message} {sheet : U16} {sides : Sides} {j : Job}
    (active : (s.stations.get a).state = .active) (hj : jobAt s a = some j) (next : sheet.val = j.nextFeed)
    (least : 1 ≤ sheet.val) (admitted : ∀ c ∈ sideClasses sides,
      classGet (s.presence.get a).capabilities c = true ∧ rightsAdmit j.rights c = true)
    (room : j.inFlight.length < 8) : takeFeed sheet sides (heard s a sent) a =
      holdCheck (heard s a sent) a j (feedEntry s j sheet.val sides) := by
  have number : feedNumber sheet = sheet.val := if_neg (by omega)
  have passed : feedRefusal (heard s a sent) a j sheet.val sides = none := by
    have caps : (sideClasses sides).any (fun c => !classGet (s.presence.get a).capabilities c) = false := by
      simpa using fun c mem => (admitted c mem).1
    have rights : (sideClasses sides).any (fun c => !rightsAdmit j.rights c) = false := by
      simpa using fun c mem => (admitted c mem).2
    have small : sheet.val < 65536 := sheet.isLt
    rw [feedRefusal_eq, heard_capabilities, if_neg (not_not.2 next), caps, rights, if_neg Bool.false_ne_true,
      if_neg Bool.false_ne_true, if_neg (by omega), if_neg (by omega)]
  rw [takeFeed_of_active (s := heard s a sent) active hj, number, passed]
  rfl

/-- Settles O24: the state refuses, or the first of the five checks that fails. -/
theorem feedRefused : Obligations.FeedRefused := by
  intro s a sent toggle sheet sides j why taking refused n
  refine ⟨fun active hj fails => whenRunning_plain taking .feed ?_, fun other => whenRunning_plain taking .feed ?_⟩
  · rw [takeFeed_of_active (s := heard s a sent) active hj, feedRefusal_eq, heard_capabilities]
    exact congrArg (Option.elim · _ _) fails
  · have still : (heard s a sent).stations.get a = s.stations.get a := rfl
    obtain ⟨state, rfl⟩ | ⟨state, rfl⟩ | ⟨state, rfl⟩ | ⟨state | state | state | state, rfl⟩ := other <;>
      simp only [takeFeed, still, state]

/-! ### The hold check (R71, R72, R80 to R82) -/

/-- A granted FEED of an ACTIVE station: the entry joins the list, and the idle timer stops (R50, R53). -/
theorem refreshIdle_grantFeed {s : State} {a : Addr} (active : (s.stations.get a).state = .active) (j : Job)
    (e : InFlight) :
    refreshIdle (grantFeed s a j e).state a =
      setStation s a { s.stations.get a with timer := none, job := some (admitEntry j e) } := by
  have stopped : (grantFeed s a j e).state =
      setStation s a { s.stations.get a with timer := none, job := some (admitEntry j e) } := by
    simp only [grantFeed, plainAnswer, stopTimer, setJob, setStation_setStation, setStation_stations,
      Table.get_set_self]
  rw [stopped, refreshIdle_eq_idled, setStation_setStation]
  simp [idled_eq, idleDue, active, admitEntry]

/-- Settles O23: the five checks pass, and the hold covers the projected amount. -/
theorem feedWithinTheHold : Obligations.FeedWithinTheHold := by
  intro s a sent toggle sheet sides j taking active hj next least admitted room covered
  have result : takeFeed sheet sides (heard s a sent) a =
      grantFeed (heard s a sent) a j (feedEntry s j sheet.val sides) := by
    rw [takeFeed_of_passed active hj next least admitted room]
    exact if_pos covered
  refine (whenRunning_event taking .feed result taking.1.2.2.2).trans ?_
  rw [refreshIdle_grantFeed (s := heard s a sent) active, grantFeed, plainAnswer, admitEntry, feedEntry_sheet]
  rfl

/-- The offer of an extension is the statements' (R80). -/
theorem offer_eq_offered (s : State) (j : Job) : offer s j = offered s j := by
  have extends_iff (x : AccountStatus) : extensionStatus x = true ↔ x = .openAccount ∨ x = .guest := by
    cases x <;> simp [extensionStatus]
  simp only [offer, offered, extends_iff]
  rfl

/-- The list of an entry admitted after an extension; the idle timer stops (R50, R80). -/
theorem refreshIdle_grantFeed_extend {s : State} {a : Addr} (active : (s.stations.get a).state = .active) (j k : Job)
    (e : InFlight) : refreshIdle (grantFeed (extend s a j) a k e).state a =
      setStation (setAccount s j.account { s.accounts.get j.account with
        holdsTotal := (s.accounts.get j.account).holdsTotal + (offered s j).toNat }) a
        { s.stations.get a with timer := none, job := some (admitEntry k e) } := by
  rw [refreshIdle_grantFeed (by rw [extend_station]; exact active), extend_station, extend, setJob,
    setStation_setStation, offer_eq_offered]

/-- A station that enters HELD: RESUME withdrawn, the wanted amount kept, the hold-wait timer at its setting (R82). -/
theorem enterHeld_eq (s : State) (a : Addr) (wanted : Nat) : enterHeld s a wanted =
    seat (withdrawResume s a) a { s.stations.get a with
      state := .held, wanted := some wanted, timer := some ⟨.holdWait, s.timers.holdWait⟩ } := by
  simp only [enterHeld, enter_eq_seat, seat_station]
  rw [setStation_seat (by rfl), startTimer_seat, withdrawResume_eq_forgot]
  rfl

/-- Settles O25: the offer is taken whole when it covers the projected amount, else the station waits in HELD. -/
theorem feedBeyondTheHold : Obligations.FeedBeyondTheHold := by
  intro s a sent toggle sheet sides j wanted taking active hj next least admitted room amount beyond
  have projected_eq : projected j (feedEntry s j sheet.val sides) = wanted := amount.symm
  have offers : offer (heard s a sent) j = offered s j := offer_eq_offered (heard s a sent) j
  have covers : offerCovers (heard s a sent) j wanted = true ↔
      0 < offered s j ∧ (wanted : Int) ≤ j.hold + offered s j := by
    simp [offerCovers, offers]
  have result : takeFeed sheet sides (heard s a sent) a =
      if offerCovers (heard s a sent) j wanted then
        grantFeed (extend (heard s a sent) a j) a { j with hold := j.hold + (offered s j).toNat }
          (feedEntry s j sheet.val sides)
      else plainAnswer (enterHeld (heard s a sent) a wanted) (.refused .held) := by
    rw [takeFeed_of_passed active hj next least admitted room, holdCheck, offers]
    exact (if_neg (by omega)).trans (by rw [← projected_eq])
  by_cases granted : offerCovers (heard s a sent) j wanted = true
  · rw [if_pos granted] at result
    refine (whenRunning_event taking .feed result taking.1.2.2.2).trans ?_
    dsimp only
    rw [if_pos (covers.1 granted), refreshIdle_grantFeed_extend (s := heard s a sent) active, grantFeed, plainAnswer,
      admitEntry, feedEntry_sheet]
    rfl
  · rw [if_neg granted] at result
    have idle : (plainAnswer (enterHeld (heard s a sent) a wanted) (.refused .held)).state.sweep = .idle := by
      rw [plainAnswer, enterHeld_eq, withdrawResume_eq_forgot]
      exact taking.1.2.2.2
    refine (whenRunning_event taking .feed result idle).trans ?_
    dsimp only
    rw [if_neg (mt covers.2 granted), refreshIdle_of_not_active, plainAnswer, enterHeld_eq, withdrawResume_eq_forgot]
    · rfl
    · simp [plainAnswer, enterHeld_eq]

end Sys2Proof.Machine

namespace Sys2Proof.Machine

set_option Elab.async false

/-! ## DELIVERED (R51, R52, R56, R131, R132) -/

/-! ### What a delivered sheet adds to its job -/

theorem classGet_classModify {α : Type} (v : PerClass α) (b c : ImpClass) (f : α → α) :
    classGet (classModify v b f) c = if b = c then f (classGet v c) else classGet v c := by
  cases b <;> cases c <;> rfl

/-- A side charged moves the count of its class and the free-vend count only (R51). -/
theorem chargeSide_frame (j : Job) (d : Side) : chargeSide j d =
    { j with charged := (chargeSide j d).charged, freeVend := (chargeSide j d).freeVend } := by
  unfold chargeSide
  cases d.kind <;> rfl

theorem chargeSide_freeVend (j : Job) (d : Side) :
    (chargeSide j d).freeVend = j.freeVend + if d.kind == .free then 1 else 0 := by
  unfold chargeSide
  cases d.kind <;> rfl

theorem chargeSide_charged (j : Job) (d : Side) (c : ImpClass) : classGet (chargeSide j d).charged c =
    classGet j.charged c + if d.cls == c && (d.kind == .priced || d.kind == .service) then 1 else 0 := by
  unfold chargeSide
  by_cases same : d.cls = c
  · cases d.kind <;> simp [classGet_classModify, same]
  · cases d.kind <;> simp [classGet_classModify, same]

/-- The sides of a sheet charged one after another (R51). -/
theorem chargeSides (l : List Side) (j : Job) :
    l.foldl chargeSide j =
        { j with charged := (l.foldl chargeSide j).charged, freeVend := (l.foldl chargeSide j).freeVend }
      ∧ (l.foldl chargeSide j).freeVend = j.freeVend + (l.filter fun d => d.kind == .free).length
      ∧ ∀ c, classGet (l.foldl chargeSide j).charged c = classGet j.charged c
        + (l.filter fun d => d.cls == c && (d.kind == .priced || d.kind == .service)).length := by
  induction l generalizing j with
  | nil => exact ⟨rfl, rfl, fun _ => rfl⟩
  | cons d l ih =>
    obtain ⟨frame, free, charged⟩ := ih (chargeSide j d)
    refine ⟨?_, ?_, fun c => ?_⟩
    · rw [List.foldl_cons, frame, chargeSide_frame j d]
    · rw [List.foldl_cons, free, chargeSide_freeVend, ← List.countP_eq_length_filter,
        ← List.countP_eq_length_filter, List.countP_cons]
      omega
    · rw [List.foldl_cons, charged, chargeSide_charged, ← List.countP_eq_length_filter,
        ← List.countP_eq_length_filter, List.countP_cons]
      omega

/-! ### What a delivered sheet adds to the meters -/

theorem rollMeter_one {v : Nat} (range : v ≤ 99999999) : rollMeter v 1 = (v + 1) % 100000000 := by
  unfold rollMeter Config.meterModulus
  split <;> omega

/-- The meters that deliveries move, for one class: class, service and duplicate (R132). -/
structure Rolled (service duplicate : Bool) (c : ImpClass) (n k : Nat) (m v : Meters Nat) : Prop where
  cls        : classGet v.classes c = (classGet m.classes c + if service then 0 else k) % 100000000
  service    : v.service = (m.service + if service then n else 0) % 100000000
  duplicate  : v.duplicate = (m.duplicate + if duplicate then n else 0) % 100000000
  writtenOff : v.writtenOff = m.writtenOff
  jams       : v.jams = m.jams

theorem countSide_cls (service duplicate : Bool) (m : Meters Nat) (d : Side) (c : ImpClass) :
    classGet (countSide service duplicate m d).classes c =
      if service = false ∧ d.cls = c then rollMeter (classGet m.classes c) 1 else classGet m.classes c := by
  cases service <;> cases duplicate <;> simp [countSide, classGet_classModify]

theorem countSide_service (service duplicate : Bool) (m : Meters Nat) (d : Side) :
    (countSide service duplicate m d).service = if service then rollMeter m.service 1 else m.service := by
  cases service <;> cases duplicate <;> simp [countSide]

theorem countSide_duplicate (service duplicate : Bool) (m : Meters Nat) (d : Side) :
    (countSide service duplicate m d).duplicate = if duplicate then rollMeter m.duplicate 1 else m.duplicate := by
  cases service <;> cases duplicate <;> simp [countSide]

theorem countSide_others (service duplicate : Bool) (m : Meters Nat) (d : Side) :
    (countSide service duplicate m d).writtenOff = m.writtenOff ∧ (countSide service duplicate m d).jams = m.jams := by
  cases service <;> cases duplicate <;> simp [countSide]

/-- The sides of a sheet counted one after another, from meters in range (R131, R132). -/
theorem rolled_foldl (service duplicate : Bool) (c : ImpClass) (l : List Side) (m : Meters Nat)
    (cls : classGet m.classes c ≤ 99999999) (serviced : m.service ≤ 99999999) (duplicates : m.duplicate ≤ 99999999) :
    Rolled service duplicate c l.length (l.filter fun d => d.cls == c).length m
      (l.foldl (countSide service duplicate) m) := by
  induction l generalizing m with
  | nil => exact ⟨by simp; omega, by simp; omega, by simp; omega, rfl, rfl⟩
  | cons d l ih =>
    have one := countSide_cls service duplicate m d c
    have two := countSide_service service duplicate m d
    have three := countSide_duplicate service duplicate m d
    obtain ⟨offs, jams⟩ := countSide_others service duplicate m d
    rw [rollMeter_one cls] at one
    rw [rollMeter_one serviced] at two
    rw [rollMeter_one duplicates] at three
    have rest := ih (countSide service duplicate m d) (by rw [one]; split <;> omega) (by rw [two]; split <;> omega)
      (by rw [three]; split <;> omega)
    rw [List.foldl_cons]
    refine ⟨?_, ?_, ?_, rest.writtenOff.trans offs, rest.jams.trans jams⟩
    · rw [rest.cls, one, ← List.countP_eq_length_filter, ← List.countP_eq_length_filter, List.countP_cons]
      cases service with
      | true => simp
      | false =>
        by_cases same : d.cls = c
        · simp [same]
          omega
        · simp [same]
    · rw [rest.service, two, List.length_cons]
      cases service with
      | true =>
        simp
        omega
      | false => simp
    · rw [rest.duplicate, three, List.length_cons]
      cases duplicate with
      | true =>
        simp
        omega
      | false => simp

/-- Settles O28: a new sheet's sides are charged, every side is counted on the meters. -/
theorem deliveryCountsEverySide : Obligations.DeliveryCountsEverySide := by
  intro s a j e rest c sides priced free k m v
  obtain ⟨frame, freed, charged⟩ := chargeSides sides j
  have old (dup : e.duplicate = true) :
      k = { j with inFlight := rest, duplicates := j.duplicates + sides.length } := if_pos dup
  have fresh (new : e.duplicate = false) : k = { sides.foldl chargeSide j with
      inFlight := rest, total := (sides.foldl chargeSide j).total + e.price, confirmed := e.sheet } :=
    if_neg (Bool.eq_false_iff.1 new)
  refine ⟨?_, fun dup => ?_, fun new => ?_, ?_, fun range => ?_⟩
  · cases dup : e.duplicate with
    | true => rw [old dup]
    | false => rw [fresh dup, frame]
  · rw [old dup]
    exact ⟨rfl, rfl, rfl, rfl, rfl⟩
  · rw [fresh new]
    refine ⟨?_, rfl, ?_, freed, charged c⟩
    · rw [frame]
    · rw [frame]
  · simp only [countSheet, setMeters, v, Table.get_set_self]
  · have counted : v = sides.foldl (countSide j.service e.duplicate) m := by
      simp only [v, countSheet, setMeters_meters, Table.get_set_self]
      rfl
    simp only [Meters.all, Bool.and_eq_true, perClass_all_iff, decide_eq_true_eq] at range
    obtain ⟨⟨⟨⟨classes, service⟩, duplicate⟩, _⟩, _⟩ := range
    obtain ⟨cls, service, duplicate, off, jams⟩ :=
      rolled_foldl j.service e.duplicate c sides m (classes c) service duplicate
    rw [counted]
    exact ⟨cls, service, duplicate, off, jams⟩

end Sys2Proof.Machine

namespace Sys2Proof.Machine

set_option Elab.async false

/-! ### A matching delivery (R51, R56, R57) -/

/-- A closed station is at rest, whatever retries followed (R57, R85). -/
theorem settled_station (s : State) (a : Addr) (why : EndReason) (j : Job) :
    (settled s a why j).stations.get a = (closed s a why j).stations.get a :=
  (((retried_settled s a why j).stations a).same fun held => by
    have rest := atRest_restState s a
    rw [closed_station] at held
    rw [show restState s a = .held from held] at rest
    cases rest).1

theorem refreshIdle_settled (s : State) (a : Addr) (why : EndReason) (j : Job) :
    refreshIdle (settled s a why j) a = settled s a why j :=
  refreshIdle_of_not_active (by rw [settled_station, closed_station]; exact restState_ne_active s a)

/-- An EVENT that closes the job carries JOB CLOSED (R57). -/
theorem whenRunning_settled {s t : State} {a : Addr} {sent : Option Message} {toggle : Bool}
    (h : Taking s a sent toggle)
    (kind : EventKind) {ju : State → Addr → EventResult} {o : AnswerOutcome} {why : EndReason} {j : Job} {n : JobClosed}
    (sweep : t.sweep = s.sweep) (result : ju (heard s a sent) a = ⟨settled t a why j, o, .jobClosed n⟩) :
    whenRunning s (fun s => stationReply (a.val + 1) s (takeEvent toggle kind ju)) =
      .next (taken (settled t a why j) a ⟨toggle, kind, o, .jobClosed n⟩) := by
  refine (whenRunning_event h kind result ((settled_sweep ..).trans (sweep.trans h.1.2.2.2))).trans ?_
  rw [refreshIdle_settled]

/-- An EVENT that leaves its station out of ACTIVE. -/
theorem whenRunning_inactive {s : State} {a : Addr} {sent : Option Message} {toggle : Bool} (h : Taking s a sent toggle)
    (kind : EventKind) {ju : State → Addr → EventResult} {t : State} {o : AnswerOutcome} (sweep : t.sweep = s.sweep)
    (result : ju (heard s a sent) a = plainAnswer t o) (state : (t.stations.get a).state ≠ .active) :
    whenRunning s (fun s => stationReply (a.val + 1) s (takeEvent toggle kind ju)) =
      .next (taken t a ⟨toggle, kind, o, .none⟩) := by
  refine (whenRunning_event h kind result (sweep.trans h.1.2.2.2)).trans ?_
  rw [refreshIdle_of_not_active (by exact state)]
  rfl

theorem pendingReason_eq {s : State} {a : Addr} {why : EndReason} (pending : (s.stations.get a).pendingEnd = some why) :
    pendingReason s a = why := by
  rw [pendingReason, pending]
  rfl

/-- A job with its head entry delivered, on its station (R51). -/
def deliveredAt (s : State) (a : Addr) (j : Job) (e : InFlight) (rest : List InFlight) : State :=
  setStation (countSheet s a j.service e) a { s.stations.get a with job := some (deliverEntry j e rest) }

/-- A delivery with more to come, or outside CLOSING, changes the job and the meters only (R51). -/
theorem takeMatching_of_more {s : State} {a : Addr} {rest : List InFlight}
    (more : (s.stations.get a).state = .closing → rest ≠ []) (j : Job) (e : InFlight) :
    takeMatching s a j e rest = plainAnswer (deliveredAt s a j e rest) (.taken e.sheet) := by
  have stays : ¬ ((s.stations.get a).state == .closing && rest.isEmpty) = true := by simpa using more
  exact if_neg stays

/-- The last delivery in CLOSING closes the job with its pending end reason (R56). -/
theorem takeMatching_of_last {s : State} {a : Addr} {why : EndReason} (closing : (s.stations.get a).state = .closing)
    (pending : (s.stations.get a).pendingEnd = some why) (j : Job) (e : InFlight) :
    takeMatching s a j e [] = ⟨settled (deliveredAt s a j e []) a why (deliverEntry j e []), .taken e.sheet,
      .jobClosed (closedNote (deliveredAt s a j e []) why (deliverEntry j e []))⟩ := by
  have station : (deliveredAt s a j e []).stations.get a =
      { s.stations.get a with job := some (deliverEntry j e []) } := Table.get_set_self ..
  have job : jobAt (deliveredAt s a j e []) a = some (deliverEntry j e []) := by rw [jobAt, station]
  have reason : pendingReason (deliveredAt s a j e []) a = why := pendingReason_eq (by rw [station]; exact pending)
  have closes : ((s.stations.get a).state == .closing && ([] : List InFlight).isEmpty) = true := by simp [closing]
  refine (if_pos closes).trans ?_
  change EventResult.mk (closeJob (deliveredAt s a j e []) a (pendingReason (deliveredAt s a j e []) a) true).1 _
    (attachClosed (closeJob (deliveredAt s a j e []) a (pendingReason (deliveredAt s a j e []) a) true).2) = _
  rw [reason, closeJob_eq_settled job]
  rfl

/-- Settles O27: the head is delivered, and in CLOSING the last one closes the job. -/
theorem deliveryCharged : Obligations.DeliveryCharged := by
  intro s a sent toggle sheet j e rest why taking hj list same
  have still : (heard s a sent).stations.get a = s.stations.get a := rfl
  have matching (awaited : (s.stations.get a).state = .active ∨ (s.stations.get a).state = .held
      ∨ (s.stations.get a).state = .closing) : takeDelivered sheet (heard s a sent) a =
        takeMatching (heard s a sent) a j e rest := by
    have taken : matchDelivery sheet (heard s a sent) a = takeMatching (heard s a sent) a j e rest := by
      simp only [matchDelivery, show ((heard s a sent).stations.get a).job = some j from hj, list]
      exact if_pos same
    obtain state | state | state := awaited <;> simp only [takeDelivered, still, state, taken]
  refine ⟨fun stays => ?_, fun closing pending last => ?_⟩
  · have more : (s.stations.get a).state = .closing → rest ≠ [] := by
      obtain state | state | ⟨_, more⟩ := stays
      · exact fun e => by cases state.symm.trans e
      · exact fun e => by cases state.symm.trans e
      · exact fun _ => more
    have result := (matching (stays.imp_right (.imp_right And.left))).trans
      (takeMatching_of_more (s := heard s a sent) more j e)
    refine (whenRunning_event taking .delivered result taking.1.2.2.2).trans ?_
    simp only [plainAnswer, deliveredAt, refreshIdle_eq_idled, setStation_setStation, setStation_stations,
      Table.get_set_self, same]
    rfl
  · subst last
    have result := (matching (.inr (.inr closing))).trans
      (takeMatching_of_last (s := heard s a sent) closing pending j e)
    rw [same] at result
    exact whenRunning_settled taking .delivered rfl result

/-! ## JAM and order errors (R52, R96 to R100) -/

theorem recordJam_eq_jamCounted (s : State) (a : Addr) (cause : JamCause) :
    recordJam s a cause = jamCounted s a cause :=
  rfl

/-- A station that enters JAMMED: list emptied, wanted amount discarded, the jam timer at its setting (R96, R97). -/
theorem enterJammed_eq {s : State} {a : Addr} {j : Job} (hj : jobAt s a = some j) : enterJammed s a =
    seat s a { s.stations.get a with
      state := .jammed, job := some (purgeJob j), wanted := none, timer := some ⟨.jam, s.timers.jam⟩ } := by
  simp only [enterJammed, enter_eq_seat, seat_station]
  rw [setStation_seat (by rfl), startTimer_seat, show (s.stations.get a).job = some j from hj]
  rfl

/-- A job jammed in ACTIVE or HELD (R96, R97). -/
def jammedBy (s : State) (a : Addr) (cause : JamCause) (j : Job) : State :=
  seat (jamCounted s a cause) a { s.stations.get a with
    state := .jammed, job := some { j with inFlight := [] }, wanted := none, timer := some ⟨.jam, s.timers.jam⟩
    engine := { (s.stations.get a).engine with lastJam := cause } }

theorem jamCounted_station (s : State) (a : Addr) (cause : JamCause) : (jamCounted s a cause).stations.get a =
    { s.stations.get a with engine := { (s.stations.get a).engine with lastJam := cause } } := Table.get_set_self ..

theorem takeJam_of_working {s : State} {a : Addr} {j : Job}
    (working : (s.stations.get a).state = .active ∨ (s.stations.get a).state = .held) (hj : jobAt s a = some j)
    (cause : JamCause) : takeJam cause s a = plainAnswer (jammedBy s a cause j) .jammed := by
  have job : jobAt (jamCounted s a cause) a = some j := by rw [jobAt, jamCounted_station]; exact hj
  have entered : enterJammed (jamCounted s a cause) a = jammedBy s a cause j := by
    rw [enterJammed_eq job, jamCounted_station]
    rfl
  obtain state | state := working <;> simp only [takeJam, state, recordJam_eq_jamCounted, entered]

theorem takeJam_of_closing {s : State} {a : Addr} {j : Job} {why : EndReason}
    (closing : (s.stations.get a).state = .closing)
    (hj : jobAt s a = some j) (pending : (s.stations.get a).pendingEnd = some why) (cause : JamCause) :
    takeJam cause s a = ⟨settled (jamCounted s a cause) a why j, .closed, .jobClosed (closedNote s why j)⟩ := by
  have job : jobAt (jamCounted s a cause) a = some j := by rw [jobAt, jamCounted_station]; exact hj
  have reason : pendingReason (jamCounted s a cause) a = why :=
    pendingReason_eq (by rw [jamCounted_station]; exact pending)
  simp only [takeJam, closing, recordJam_eq_jamCounted, reason, closeJob_eq_settled job]
  rfl

theorem takeJam_of_jammed {s : State} {a : Addr} (jammed : (s.stations.get a).state = .jammed) (cause : JamCause) :
    takeJam cause s a = plainAnswer (jamCounted s a cause) .counted := by
  simp only [takeJam, jammed, recordJam_eq_jamCounted]

theorem takeJam_of_unopened {s : State} {a : Addr} (unopened : (s.stations.get a).state = .offline
      ∨ (s.stations.get a).state = .disabled ∨ (s.stations.get a).state = .idle
      ∨ (s.stations.get a).state = .authorizing) (cause : JamCause) :
    takeJam cause s a = plainAnswer (jamCounted s a cause) .ignored := by
  obtain state | state | state | state := unopened <;> simp only [takeJam, state, recordJam_eq_jamCounted]

/-- A DELIVERED that does not match the head of the list is an order error (R52). -/
theorem takeDelivered_of_mismatch {s : State} {a : Addr} {j : Job} {sheet : U16}
    (awaited : (s.stations.get a).state = .active
      ∨ (s.stations.get a).state = .held ∨ (s.stations.get a).state = .closing) (hj : jobAt s a = some j)
    (other : j.inFlight.head?.map InFlight.sheet ≠ some sheet.val) : takeDelivered sheet s a = orderError s a := by
  have mismatch : matchDelivery sheet s a = orderError s a := by
    simp only [matchDelivery, show (s.stations.get a).job = some j from hj]
    cases list : j.inFlight with
    | nil => rfl
    | cons e rest => exact if_neg fun same => other (by rw [list]; exact congrArg some same)
  obtain state | state | state := awaited <;> simp only [takeDelivered, state, mismatch]

/-- Settles O29: each state takes a JAM in its own way, and an order error as a JAM with cause ORDER. -/
theorem jamsAndOrderErrors : Obligations.JamsAndOrderErrors := by
  intro s a sent toggle location sheet j why taking counted jammed
  have still : (heard s a sent).stations.get a = s.stations.get a := rfl
  have inactive (cause : JamCause) (other : (s.stations.get a).state ≠ .active) :
      ((counted cause).stations.get a).state ≠ .active := by
    simp only [counted, jamCounted_station]
    exact other
  refine ⟨fun working hj => ?_, fun closing hj pending => ?_, fun state => ?_, fun unopened => ?_⟩
  · have jam (cause : JamCause) := takeJam_of_working (s := heard s a sent) working hj cause
    have halted (cause : JamCause) : ((jammedBy (heard s a sent) a cause j).stations.get a).state ≠ .active := by
      simp [jammedBy]
    refine ⟨whenRunning_inactive taking .jam rfl (jam _) (halted _), fun other =>
      whenRunning_inactive taking .delivered rfl ?_ (halted _)⟩
    rw [takeDelivered_of_mismatch (s := heard s a sent) (working.imp_right .inl) hj other, orderError, jam]
    rfl
  · have jam (cause : JamCause) := takeJam_of_closing (s := heard s a sent) closing hj pending cause
    refine ⟨whenRunning_settled taking .jam rfl (jam _), fun other => whenRunning_settled taking .delivered rfl ?_⟩
    rw [takeDelivered_of_mismatch (s := heard s a sent) (.inr (.inr closing)) hj other, orderError, jam]
    rfl
  · have jam (cause : JamCause) := takeJam_of_jammed (s := heard s a sent) state cause
    have halted := fun cause => inactive cause (by rw [state]; exact nofun)
    refine ⟨whenRunning_inactive taking .jam rfl (jam _) (halted _),
      whenRunning_inactive taking .delivered rfl ?_ (halted _)⟩
    simp only [takeDelivered, still, state, orderError, jam]
    rfl
  · have jam (cause : JamCause) := takeJam_of_unopened (s := heard s a sent) unopened cause
    have away : (s.stations.get a).state ≠ .active := by
      obtain e | e | e | e := unopened <;> rw [e] <;> exact nofun
    refine ⟨whenRunning_inactive taking .jam rfl (jam _) (inactive _ away),
      whenRunning_inactive taking .delivered rfl ?_ away⟩
    obtain state | state | state | state := unopened <;> simp only [takeDelivered, still, state]

/-! ## STATUS and FINISH (R54, R103) -/

/-- The engine status after a STATUS, latch by latch (R103). -/
theorem statusEngine_eq (e : EngineStatus) (f : EngineFlags) : statusEngine e f =
    { flags := f, lastJam := e.lastJam
      doorLatch := decide (e.doorLatch = true ∨ (e.flags.doorOpen = false ∧ f.doorOpen = true))
      paperLatch := decide (e.paperLatch = true ∨ (e.flags.paperOut = false ∧ f.paperOut = true))
      tonerLatch := decide (e.tonerLatch = true ∨ (e.flags.tonerLow = false ∧ f.tonerLow = true)) } := by
  have latch (x y z : Bool) : (x || (z && !y)) = decide (x = true ∨ (y = false ∧ z = true)) := by
    cases x <;> cases y <;> cases z <;> rfl
  simp only [statusEngine, latch]

/-- Settles O31: the notice is placed where a value differed, and the idle timer follows. -/
theorem statusKeepsAndLatches : Obligations.StatusKeepsAndLatches := by
  intro s a sent toggle f taking
  have result : takeStatus f (heard s a sent) a = plainAnswer (setStation { heard s a sent with
      notices := if f = (s.stations.get a).engine.flags then (heard s a sent).notices
        else placeIn (.stationStatus a) (heard s a sent).notices } a
      { s.stations.get a with engine := statusEngine (s.stations.get a).engine f }) .noted := by
    have still : (heard s a sent).stations.get a = s.stations.get a := rfl
    simp only [takeStatus, still]
    by_cases same : f = (s.stations.get a).engine.flags
    · rw [if_pos same, if_pos same.symm]
    · rw [if_neg same, if_neg (Ne.symm same)]
      rfl
  refine (whenRunning_event taking .status result taking.1.2.2.2).trans ?_
  simp only [plainAnswer, refreshIdle_eq_idled, setStation_setStation, setStation_stations, Table.get_set_self,
    statusEngine_eq]
  rfl

/-- Settles O32: what FINISH closes at once carries JOB CLOSED, what drains does not. -/
theorem finishClosesByState : Obligations.FinishClosesByState := by
  intro s a sent toggle j taking
  have still : (heard s a sent).stations.get a = s.stations.get a := rfl
  refine ⟨fun working hj => ?_, fun jammed hj => ?_, fun other => ?_⟩
  · have begun := beginClosing_eq (s := heard s a sent) hj
      (by obtain e | e := working <;> rw [still, e] <;> exact nofun) .finished
    have result : takeFinish (heard s a sent) a =
        ⟨(beginClosing (heard s a sent) a .finished).1, finishOutcome (beginClosing (heard s a sent) a .finished).2,
          attachClosed (beginClosing (heard s a sent) a .finished).2⟩ := by
      obtain state | state := working <;> simp only [takeFinish, still, state]
    rw [begun] at result
    by_cases empty : j.inFlight = []
    · rw [if_pos empty] at result ⊢
      exact whenRunning_settled taking .finish rfl result
    · rw [if_neg empty] at result ⊢
      exact whenRunning_inactive taking .finish rfl result (by simp [draining])
  · have result : takeFinish (heard s a sent) a =
        ⟨settled (heard s a sent) a .finished j, .closed, .jobClosed (closedNote s .finished j)⟩ := by
      simp only [takeFinish, still, jammed, closeJob_eq_settled (s := heard s a sent) hj]
      rfl
    exact whenRunning_settled taking .finish rfl result
  · have result : takeFinish (heard s a sent) a = plainAnswer (heard s a sent) .ignored := by
      cases state : (s.stations.get a).state with
      | closing | offline | disabled | idle | authorizing => simp only [takeFinish, still, state]
      | active | held | jammed | detached => simp [state, hasOpenJob] at other
    refine whenRunning_inactive taking .finish rfl result fun active => ?_
    rw [still] at active
    simp [active, hasOpenJob] at other

end Sys2Proof.Machine

namespace Sys2Proof.Machine

set_option Elab.async false

/-! ## The timers of an open job (R53, R55, R56, R61, R84, R111) -/

/-- What the expiry of a running timer does (R33, R53, R56, R61, R84, R111). -/
def expiryAction (k : TimerKind) (s : State) (a : Addr) : State :=
  match k with
  | .authorization => declineToSlot s a .timeout
  | .idle => beginClosingToSlot s a .idle
  | .holdWait => beginClosingToSlot s a .funds
  | .jam => closeToSlot s a .jamAbandoned
  | .drain => closeToSlot s a (pendingReason s a)
  | .reconnectGrace => closeToSlot s a .stationLost

theorem exec_expiryOf (k : TimerKind) (a : Addr) (s : State) :
    exec (expiryOf k a) s = expire k (floorNumber a) s (expiryAction k) := by
  cases k <;> rfl

/-- The expiry of a timer that does not run has no effect (log entry 4). -/
theorem expire_of_stopped {s : State} {a : Addr} {k : TimerKind} (low : s.resetLow = false)
    (stopped : (s.stations.get a).timer.map RunningTimer.kind ≠ some k) (f : State → Addr → State) :
    expire k (floorNumber a) s f = .next s := by
  have still : timerRuns s a k = false := by
    unfold timerRuns
    cases timer : (s.stations.get a).timer with
    | none => simp
    | some t => simpa [timer] using fun _ => stopped
  rw [expire, whenRunning_eq _ _ low, atAddr_floorNumber, still]
  rfl

/-- Settles O33: each timer closes its job in its own state, and none that does not run. -/
theorem stationTimersClose : Obligations.StationTimersClose := by
  intro s a j why k low r runs
  have expires {k : TimerKind} (state : r.state = timerState k) (run : runs k) :
      exec (expiryOf k a) s = .next (expiryAction k s a) :=
    (exec_expiryOf k a s).trans (expire_of_running low state run)
  refine ⟨fun hj => ⟨fun active run => ?_, fun held run => ?_, fun jammed run => ?_, fun closing run pending => ?_,
    fun detached run => ?_⟩, fun stopped => (exec_expiryOf k a s).trans (expire_of_stopped low stopped _)⟩
  · refine (expires (k := .idle) active run).trans (congrArg _ ?_)
    exact beginClosingToSlot_eq_closingAway hj (fun e => by cases e.symm.trans active) .idle
  · refine (expires (k := .holdWait) held run).trans (congrArg _ ?_)
    exact beginClosingToSlot_eq_closingAway hj (fun e => by cases e.symm.trans held) .funds
  · exact (expires (k := .jam) jammed run).trans (congrArg _ (closeToSlot_eq_closedAway hj _))
  · refine (expires (k := .drain) closing run).trans (congrArg _ ?_)
    rw [expiryAction, pendingReason_eq pending, closeToSlot_eq_closedAway hj]
  · exact (expires (k := .reconnectGrace) detached run).trans (congrArg _ (closeToSlot_eq_closedAway hj _))

/-! ## Settings (R62, R142, R144, R160) -/

/-- A timer setting after SET TIMERS, limited from below and from above (R62). -/
theorem newSetting_eq {lo hi : Nat} (range : lo ≤ hi) (old : Nat) (v : Option Nat) : newSetting lo hi old v =
    match v with
    | none => old
    | some x => if x < lo then lo else if hi < x then hi else x := by
  cases v with
  | none => rfl
  | some x =>
    simp only [newSetting, clamp]
    split
    · omega
    · split <;> omega

/-- A change of mode within OPEN, AFTER_HOURS and SERVICE over a floor at rest changes the mode only (R142). -/
theorem changeMode_at_rest {s : State} {m : ShopMode} (rest : ∀ a : Addr, atRest (s.stations.get a).state = true)
    (empty : s.waitQueue = []) (within : crossesClosed s.mode m = false) :
    changeMode m s = accept (.modeChange s.mode m 0 0) { s with mode := m } := by
  have noAuthorization : authorizingAddrs s = [] := List.filter_eq_nil_iff.2 fun a _ waits => by
    have calm := rest a
    rw [eq_of_beq waits] at calm
    cases calm
  have noJob : notAdmitted { s with mode := m } m = [] := List.filter_eq_nil_iff.2 fun a _ works => by
    rw [hasOpenJob_of_atRest (rest a), Bool.false_and] at works
    cases works
  have ended : endAuthorizations { s with mode := m } = { s with mode := m } := by
    rw [endAuthorizations, show authorizingAddrs { s with mode := m } = [] from noAuthorization, List.foldl_nil]
    exact congrArg (fun q => { s with mode := m, waitQueue := q }) empty.symm
  simp only [changeMode, ended, noAuthorization, noJob, within]
  rfl

/-- Settles O39: each request sets what it names. -/
theorem settingsTakeTheirValues : Obligations.SettingsTakeTheirValues := by
  intro s req value m v low o
  refine ⟨request_answered low rfl, request_answered low rfl, fun other => request_refused low ?_, ?_, ?_,
    fun rest empty opened named => request_answered low ?_, ?_⟩
  · rw [setFreeVend, flagOf_eq_none other]
  · rw [exec, execPause]
    exact request_answered low rfl
  · rw [exec, execUnpause]
    exact request_answered low rfl
  · have known : modeOf value = some m := modeOf_of_named (named.imp_right (.imp_right .inl))
    have open' : m ≠ .closed := by
      obtain ⟨_, e⟩ | ⟨_, e⟩ | ⟨_, e⟩ := named <;> rw [e] <;> exact nofun
    rw [setMode, known]
    dsimp only
    split
    next same => rw [same]; rfl
    next change =>
      have within : crossesClosed s.mode m = false :=
        Bool.eq_false_iff.2 fun crosses => ((crossesClosed_iff change).1 crosses).elim opened open'
      exact changeMode_at_rest (s := { s with window := none }) rest empty within
  · refine request_answered low ?_
    rw [setTimers, newTimers, newSetting_eq (lo := 5) (by decide), newSetting_eq (lo := 15) (by decide),
      newSetting_eq (lo := 30) (by decide), newSetting_eq (lo := 60) (by decide), newSetting_eq (lo := 10) (by decide),
      newSetting_eq (lo := 2) (by decide)]
    rfl

end Sys2Proof.Machine

namespace Sys2Proof.Machine

set_option Elab.async false

/-! ## Sweeps and the rotation's probe (R44, R102, R147 to R150) -/

/-- A station at rest takes the rest state that applies, in the words of the statements (R44). -/
theorem takeRest_eq_seat (s : State) (a : Addr) : takeRest s a =
    if atRest (s.stations.get a).state then
      seat s a { s.stations.get a with state := restState s a, timer := none } else s := by
  split
  next rest => exact takeRest_of_atRest rest
  next busy => exact if_neg busy

/-- An address found PRESENT, newly present unless it was polled with that token (R148 to R150). -/
theorem foundPresent_eq (s : State) (a : Addr) (token : U16) (caps : Capabilities) :
    let q := s.presence.get a
    let t := { s with presence := s.presence.set a { q with
      state := .present, token := some token, capabilities := caps, misses := 0, toggle := none
      lastAnswer := none, lossTimer := none } }
    foundPresent s a token caps = takeRest (if (q.state = .present ∨ q.state = .lost) ∧ q.token = some token then t
      else { t with stations := t.stations.set a { t.stations.get a with engine := EngineStatus.reset } }) a := by
  intro q t
  have known : (isPolled q.state && q.token == some token) = true ↔
      (q.state = .present ∨ q.state = .lost) ∧ q.token = some token := by
    rw [Bool.and_eq_true, beq_iff_eq]
    refine and_congr_left' ?_
    cases q.state <;> simp [isPolled]
  rw [foundPresent]
  refine congrArg (takeRest · a) ?_
  by_cases k : (q.state = .present ∨ q.state = .lost) ∧ q.token = some token
  · exact (if_pos (known.2 k)).trans (if_pos k).symm
  · exact (if_neg (mt known.1 k)).trans (if_neg k).symm

theorem foundPresent_sweep (s : State) (a : Addr) (token : U16) (caps : Capabilities) :
    (foundPresent s a token caps).sweep = s.sweep := by
  rw [foundPresent_eq, takeRest_eq]
  dsimp only
  split <;> split <;> rfl

/-- A reply of no particular window, where none of a POLL stands (R146). -/
theorem exec_probeWindow {s : State} (low : s.resetLow = false) (window : ∀ a sent, s.awaiting ≠ .poll a sent) :
    exec .missedReply s = .next (probeTurn s none) ∧ exec .garbledReply s = .next (probeTurn s (some .garbled)) := by
  constructor
  · rw [exec, execMissedReply, whenRunning_eq _ _ low, missed]
    cases awaited : s.awaiting with
    | poll a sent => exact absurd awaited (window a sent)
    | none | sweepOne _ | sweepTwo _ _ | probe _ => rfl
  · rw [exec, execGarbledReply, whenRunning_eq _ _ low, garbled]
    cases awaited : s.awaiting with
    | poll a sent => exact absurd awaited (window a sent)
    | none | sweepOne _ | sweepTwo _ _ | probe _ => rfl

theorem exec_sweepReply {s : State} (low : s.resetLow = false) (reply : ProbeReply) :
    exec (.sweepReply reply) s = .next (if awaitsSweep s.awaiting then probeTurn s (some reply) else s) := by
  rw [exec, execSweepReply, whenRunning_eq _ _ low]

theorem exec_probeReply {s : State} (low : s.resetLow = false) (reply : ProbeReply) :
    exec (.probeReply reply) s = .next (if awaitsProbe s.awaiting then probeTurn s (some reply) else s) := by
  rw [exec, execProbeReply, whenRunning_eq _ _ low]

theorem probeTurn_of_sweepOne {s : State} {a : Addr} (awaited : s.awaiting = .sweepOne a) (r : Option ProbeReply) :
    probeTurn s r = { s with awaiting := .sweepTwo a (judgeProbe a 85 r), floorTx := [.probe a 170] } := by
  simp only [probeTurn, awaited]
  rfl

theorem probeTurn_of_sweepTwo {s : State} {a : Addr} {first : FirstReply} (awaited : s.awaiting = .sweepTwo a first)
    (r : Option ProbeReply) :
    probeTurn s r = nextTurn (sweepOutcome s a first (judgeProbe a 170 r) (replyCaps r)) a := by
  simp only [probeTurn, awaited]
  rfl

theorem probeTurn_of_probe {s : State} {a : Addr} (awaited : s.awaiting = .probe a) (idle : s.sweep = .idle)
    (r : Option ProbeReply) :
    probeTurn s r = { (if let .hello token := judgeProbe a 85 r then foundPresent s a token (replyCaps r) else s) with
      awaiting := .none } := by
  simp only [probeTurn, awaited, Config.patternOne]
  cases judgeProbe a 85 r with
  | hello token => exact endExchange_of_idle ((foundPresent_sweep ..).trans idle)
  | missed | bad => exact endExchange_of_idle idle

/-- A HELLO is judged by its number and its echo. -/
theorem judgeProbe_hello (a : Addr) (pattern : Byte) (n : Nat) (echo : Byte) (token : U16) (caps : Capabilities) :
    judgeProbe a pattern (some (.hello n echo token caps)) = .hello token
      ∨ judgeProbe a pattern (some (.hello n echo token caps)) = .bad := by
  rw [judgeProbe]
  split
  · exact .inl rfl
  · exact .inr rfl

/-- Settles O47: the two replies of an address are judged, and its presence follows. -/
theorem sweepDecidesEachAddress : Obligations.SweepDecidesEachAddress := by
  intro s a reply first low judged moved rest found gone
  have judges (pattern : Byte) : judged pattern = judgeProbe a pattern (some reply) := by
    cases reply <;> rfl
  have rests (t : State) : rest t = takeRest t a := (takeRest_eq_seat t a).symm
  have finds (token : U16) (caps : Capabilities) : found token caps = foundPresent s a token caps := by
    rw [foundPresent_eq, ← rests]
  have goes (p : Presence) : gone p = foundMissing s a p := rests _
  refine ⟨fun one => ?_, fun two => ?_, fun probe idle => ?_, fun none => ?_, fun none => ?_⟩
  · have awaits : awaitsSweep s.awaiting = true := by rw [one]; rfl
    have window := exec_probeWindow low fun _ _ poll => nomatch one.symm.trans poll
    rw [exec_sweepReply low, window.1, window.2, judges, if_pos awaits]
    exact ⟨congrArg _ (probeTurn_of_sweepOne one _), congrArg _ (probeTurn_of_sweepOne one _),
      congrArg _ (probeTurn_of_sweepOne one _)⟩
  · have awaits : awaitsSweep s.awaiting = true := by rw [two]; rfl
    have window := exec_probeWindow low fun _ _ poll => nomatch two.symm.trans poll
    have moves (t : State) : moved t = nextTurn t a := rfl
    rw [exec_sweepReply low, window.1, window.2, if_pos awaits]
    simp only [probeTurn_of_sweepTwo two, moves, judges, finds, goes]
    refine ⟨congrArg (Host.Outcome.next <| nextTurn · a) ?_, congrArg (Host.Outcome.next <| nextTurn · a) ?_,
      congrArg (Host.Outcome.next <| nextTurn · a) ?_⟩
    · cases reply with
      | notHello | garbled => cases first <;> rfl
      | hello n echo u caps =>
        rcases judgeProbe_hello a 170 n echo u caps with good | bad
        · rw [good]
          cases first with
          | bad | missed => rfl
          | hello t =>
            by_cases same : t = u
            · simp [sweepOutcome, sweepDecision, same, replyCaps]
            · simp [sweepOutcome, sweepDecision, same]
        · rw [bad]
          cases first <;> rfl
    · cases first <;> rfl
    · cases first <;> rfl
  · have awaits : awaitsProbe s.awaiting = true := by rw [probe]; rfl
    have window := exec_probeWindow low fun _ _ poll => nomatch probe.symm.trans poll
    rw [exec_probeReply low, window.1, window.2, if_pos awaits]
    simp only [probeTurn_of_probe probe idle, judges, finds]
    refine ⟨?_, rfl, rfl⟩
    cases reply with
    | notHello | garbled => rfl
    | hello n echo u caps =>
      rcases judgeProbe_hello a 85 n echo u caps with good | bad
      · rw [good]
        rfl
      · rw [bad]
        rfl
  · rw [exec_sweepReply low, none]
    rfl
  · rw [exec_probeReply low, none]
    rfl

end Sys2Proof.Machine

namespace Sys2Proof.Machine

set_option Elab.async false

/-! ## Prices, the charge, and the first half of R73 over one job (R67, R71 to R77) -/

/-- The tier of an ordinal follows the breaks (R67). -/
theorem tierRate_eq {p : Plan} (low : p.b1 ≤ p.b2) (high : p.b2 ≤ p.b3) (r : TierRates) (n : Nat) :
    (n ≤ p.b1 → tierRate p n r = r.t1) ∧ (p.b1 + 1 ≤ n → n ≤ p.b2 → tierRate p n r = r.t2)
      ∧ (p.b2 + 1 ≤ n → n ≤ p.b3 → tierRate p n r = r.t3) ∧ (p.b3 < n → tierRate p n r = r.t4) := by
  unfold tierRate
  refine ⟨fun h => if_pos h, fun above h => ?_, fun above h => ?_, fun above => ?_⟩
  · rw [if_neg (by omega), if_pos h]
  · rw [if_neg (by omega), if_neg (by omega), if_pos h]
  · rw [if_neg (by omega), if_neg (by omega), if_neg (by omega)]

/-- A discount never raises the total (R75). -/
theorem discounted_le (total discount : Nat) : discounted total discount ≤ total :=
  Nat.div_le_of_le_mul ((Nat.mul_le_mul_left total (Nat.sub_le 1000 discount)).trans_eq (Nat.mul_comm total 1000))

theorem discounted_zero (total : Nat) : discounted total 0 = total := Nat.mul_div_cancel total (by decide)

/-- Half a minor unit rounds up, and never above the next whole one (R76). -/
theorem rounded_le_ceil100 {d x : Nat} (h : d ≤ x) : rounded d ≤ ceil100 x :=
  Nat.div_le_div_right (by omega)

theorem minimumApplies_iff (m : Nat) (j : Job) : minimumApplies m j = true ↔
    (j.service = false ∧ 1 ≤ classSum j.charged) ∧ rounded (discounted j.total j.discount) < m := by
  rw [minimumApplies_eq, decide_eq_true_iff, and_assoc]
  rfl

/-- Settles O35: the tiers branch by branch, D below T, and the charge by whether the minimum applies. -/
theorem pricesAndCharges : Obligations.PricesAndCharges := by
  intro p r n m j _ low high
  obtain ⟨one, two, three, four⟩ := tierRate_eq low high r n
  refine ⟨one, two, three, four, rfl, discounted_le .., fun none => ?_, rfl, fun priced below => ?_, fun other => ?_⟩
  · rw [none]
    exact discounted_zero j.total
  · have applies : minimumApplies m j = true := (minimumApplies_iff m j).2 ⟨priced, below⟩
    exact ⟨if_pos applies, applies⟩
  · have not : ¬ minimumApplies m j = true := fun applies => other ((minimumApplies_iff m j).1 applies)
    exact ⟨if_neg not, Bool.eq_false_iff.2 not⟩

/-- The charge is at most what covers the rounded-up total and, outside a service job, the minimum (R77). -/
theorem chargeOf_le {m hold : Nat} {j : Job} (total : ceil100 j.total ≤ hold) (least : j.service = false → m ≤ hold) :
    chargeOf m j ≤ hold := by
  unfold chargeOf
  split
  next applies =>
    obtain ⟨⟨priced, _⟩, _⟩ := (minimumApplies_iff m j).1 applies
    exact least priced
  next => exact (rounded_le_ceil100 (discounted_le ..)).trans total

theorem ceil100_mono {x y : Nat} (h : x ≤ y) : ceil100 x ≤ ceil100 y := Nat.div_le_div_right (by omega)

/-- The committed total of a job, rounded up, is at most its hold (R73). -/
def WithinHold (j : Job) : Prop := ceil100 (committedTotal j) ≤ j.hold

theorem holdLaw_iff {s : State} : HoldLaw s ↔ ∀ (a : Addr) (j : Job), jobAt s a = some j → WithinHold j := Iff.rfl

theorem WithinHold.total {j : Job} (h : WithinHold j) : ceil100 j.total ≤ j.hold :=
  (ceil100_mono (Nat.le_add_right ..)).trans h

/-- Settles O36: the rounded amount is within the rounded-up total, and the minimum within the hold of the job. -/
theorem chargeNeverExceedsTheHold : Obligations.ChargeNeverExceedsTheHold := by
  intro s a j hold accounts hj
  have opened : j ∈ openJobs s := List.mem_filterMap.2 ⟨a, mem_allAddrs a, hj⟩
  have charge : chargeOf (s.plans.get j.plan).m j ≤ j.hold :=
    chargeOf_le (WithinHold.total (hold a j hj)) (accounts.least j opened)
  refine ⟨charge, ?_⟩
  rw [closedNote, due_eq]
  exact charge

/-! ### What the rules do to one job's committed total and hold -/

theorem withinHold_openingJob (n : AccountNo) (guest service : Bool) (x : Account) (ceiling : Option Nat) (hold : Nat) :
    WithinHold (openingJob n guest service x ceiling hold) :=
  (show ceil100 0 = 0 from rfl).trans_le (Nat.zero_le hold)

section
variable {j : Job} (h : WithinHold j)
include h

/-- An extension only raises the hold (R80). -/
theorem WithinHold.extended (n : Nat) : WithinHold { j with hold := j.hold + n } := Nat.le_add_right_of_le h

/-- A purge only lowers the committed total (R97). -/
theorem WithinHold.purged : WithinHold (purgeJob j) := h.total

/-- A restart writes off sheets and leaves the money alone (R107). -/
theorem WithinHold.restarted (n : Nat) : WithinHold (restartJob j n) := h

/-- A delivery moves the pending price of a new sheet into the total, and drops a duplicate (R51, R71). -/
theorem WithinHold.delivered {e : InFlight} {rest : List InFlight} (head : j.inFlight = e :: rest) :
    WithinHold (deliverEntry j e rest) := by
  have before : committedTotal j = j.total + (e.price + pendingPrices rest) := by
    simp [committedTotal, pendingPrices, head]
  unfold deliverEntry
  split
  · refine (ceil100_mono ?_).trans h
    rw [before]
    exact Nat.add_le_add_left (Nat.le_add_left ..) _
  · rw [(chargeSides _ j).1]
    refine (ceil100_mono (Nat.le_of_eq ?_)).trans h
    rw [before]
    exact Nat.add_assoc ..

end

/-- A sheet whose projected amount the hold covers may be admitted (R72). -/
theorem withinHold_admitEntry {j : Job} {e : InFlight} (covered : projected j e ≤ j.hold) :
    WithinHold (admitEntry j e) := by
  have after : committedTotal (admitEntry j e) = committedTotal j + e.price := by
    simp [committedTotal, admitEntry, pendingPrices, Nat.add_assoc]
  unfold WithinHold
  rw [after]
  exact covered

end Sys2Proof.Machine

namespace Sys2Proof.Machine

set_option Elab.async false

/-! ## The first half of R73 is kept by every operation (R71, R72, R73)

The law reads the jobs of the stations and nothing else. So an operation keeps it that leaves the station records as
they are, or writes a record whose job is the old one, or none, or one within its hold. (`step_keeps` does not serve
here: a `Move` keeps the claim of a job, which holds neither its total nor its sheets in flight.) -/

/-! ### The operations over one record -/

section
variable {s : State} (h : HoldLaw s)
include h

theorem HoldLaw.frame {t : State} (stations : t.stations = s.stations := by rfl) : HoldLaw t := by
  intro a j hj
  rw [jobAt, stations] at hj
  exact h a j hj

/-- One station record written, with a job within its hold if any. -/
theorem HoldLaw.put {t : State} {a : Addr} {r : Station} (stations : t.stations = s.stations.set a r)
    (within : ∀ j, r.job = some j → WithinHold j) : HoldLaw t := by
  intro b j hj
  rw [jobAt, stations, Table.get_set] at hj
  split at hj
  · exact within j hj
  · exact h b j hj

/-- One station record written, its job left as it is. -/
theorem HoldLaw.putSame {t : State} {a : Addr} {r : Station} (stations : t.stations = s.stations.set a r)
    (same : r.job = (s.stations.get a).job := by rfl) : HoldLaw t :=
  h.put stations fun j hj => h a j (same.symm.trans hj)

theorem HoldLaw.setStation (a : Addr) (r : Station) (same : r.job = (s.stations.get a).job := by rfl) :
    HoldLaw (setStation s a r) := h.putSame rfl same

theorem HoldLaw.setJob (a : Addr) {j : Job} (within : WithinHold j) : HoldLaw (setJob s a j) :=
  h.put rfl fun _ e => Option.some.inj e ▸ within

theorem HoldLaw.enter (a : Addr) (st : StationState) : HoldLaw (enter s a st) := h.putSame rfl

theorem HoldLaw.startTimer (a : Addr) (k : TimerKind) : HoldLaw (startTimer s a k) := h.putSame rfl

theorem HoldLaw.refreshIdle (a : Addr) : HoldLaw (refreshIdle s a) := by
  obtain ⟨t, e⟩ := refreshIdle_eq s a
  rw [e]
  exact h.setStation a _

theorem HoldLaw.takeRest (a : Addr) : HoldLaw (takeRest s a) := by
  rcases takeRest_cases s a with ⟨_, e⟩ | ⟨_, e⟩ <;> rw [e]
  · exact h.enter a _
  · exact h

theorem HoldLaw.placeCardResult (a : Addr) (x : CardResult) : HoldLaw (placeCardResult s a x) := by
  obtain ⟨_, e⟩ := placeCardResult_eq s a x
  rw [e]
  exact h.frame

theorem HoldLaw.withdrawResume (a : Addr) : HoldLaw (withdrawResume s a) := by
  obtain ⟨_, e⟩ := withdrawResume_eq s a
  rw [e]
  exact h.frame

theorem HoldLaw.placeClosed (a : Addr) (x : Option JobClosed) : HoldLaw (placeClosed s a x) := by
  cases x with
  | none => exact h
  | some j =>
    obtain ⟨_, e⟩ := placeJobClosed_eq s a j
    rw [Machine.placeClosed, e]
    exact h.frame

theorem HoldLaw.noticeLevel : HoldLaw (noticeLevel s) := by
  obtain ⟨_, e⟩ := noticeLevel_eq s
  rw [e]
  exact h.frame

theorem HoldLaw.tickOrder (as : List Addr) : HoldLaw (tickOrder s as) := by
  obtain ⟨_, e⟩ := tickOrder_eq s as
  rw [e]
  exact h.frame

theorem HoldLaw.foldl {α : Type} {f : State → α → State} (each : ∀ t x, HoldLaw t → HoldLaw (f t x)) (l : List α) :
    HoldLaw (l.foldl f s) := by
  induction l generalizing s with
  | nil => exact h
  | cons x l ih => exact ih (each s x h)

theorem HoldLaw.tick : HoldLaw (tick s) := by
  unfold Machine.tick
  split
  · exact h
  · dsimp only
    generalize allAddrs.filter (fun a => !(dueExpiries s a).isEmpty) = due
    have counted : HoldLaw (allAddrs.foldl countDown (Machine.tickOrder s due)) :=
      (h.tickOrder due).foldl (fun _ a g => g.putSame (a := a) rfl) _
    generalize allAddrs.foldl countDown (Machine.tickOrder s due) = t at counted ⊢
    exact counted.frame

/-! ### Holds and closes -/

theorem HoldLaw.retryStation (a : Addr) : HoldLaw (retryStation s a) := by
  obtain e | ⟨j, _, _, hj, _, _, e⟩ := retryStation_cases s a <;> rw [e]
  · exact h
  · refine h.put rfl fun k hk => ?_
    rw [idled_job] at hk
    cases hk
    exact (holdLaw_iff.1 h a j hj).extended _

theorem HoldLaw.retryAccount (n : AccountNo) : HoldLaw (retryAccount s n) := by
  refine h.foldl (fun t a g => ?_) _
  split
  · exact g.retryStation a
  · exact g

theorem HoldLaw.retryIfRisen (before : Int) (n : AccountNo) : HoldLaw (retryIfRisen before s n) := by
  unfold Machine.retryIfRisen
  split
  · exact h.retryAccount n
  · exact h

theorem HoldLaw.closeJob (a : Addr) (why : EndReason) (retry : Bool) : HoldLaw (closeJob s a why retry).1 := by
  unfold Machine.closeJob
  split
  next => exact h
  next j _ =>
    have closed : HoldLaw (closeQuiet s a why j) := h.put (closeQuiet_stations s a why j) nofun
    dsimp only
    split
    · exact closed.retryIfRisen _ _
    · exact closed

theorem HoldLaw.closeToSlot (a : Addr) (why : EndReason) : HoldLaw (closeToSlot s a why) :=
  (h.closeJob a why true).placeClosed a _

theorem HoldLaw.beginClosing (a : Addr) (why : EndReason) : HoldLaw (beginClosing s a why).1 := by
  unfold Machine.beginClosing
  split
  next => exact h
  next =>
    have closing := (h.enter a .closing).setStation a
      { (Machine.enter s a .closing).stations.get a with pendingEnd := some why, wanted := none }
    dsimp only
    split
    · exact closing.closeJob a why true
    · exact closing.startTimer a .drain

theorem HoldLaw.beginClosingToSlot (a : Addr) (why : EndReason) : HoldLaw (beginClosingToSlot s a why) :=
  (h.beginClosing a why).placeClosed a _

theorem HoldLaw.forceClose (a : Addr) : HoldLaw (forceClose s a) := by
  unfold Machine.forceClose
  split
  iterate 2 next => exact h.beginClosingToSlot a _
  iterate 2 next => exact h.closeToSlot a _
  all_goals exact h

/-! ### Authorizations and grants -/

theorem HoldLaw.endAuthorization (a : Addr) : HoldLaw (endAuthorization s a) := by
  obtain ⟨_, _, e⟩ := endAuthorization_stations s a
  exact h.putSame e

theorem HoldLaw.declineToSlot (a : Addr) (why : DeclineReason) : HoldLaw (declineToSlot s a why) :=
  (h.endAuthorization a).placeCardResult a _

theorem HoldLaw.goOnline (a : Addr) (card : AuthCard) : HoldLaw (goOnline s a card) :=
  h.putSame (goOnline_cases s a card).1

theorem HoldLaw.grant (a : Addr) (n : AccountNo) (guest : Bool) (ceiling : Option Nat) (hold : Nat) :
    HoldLaw (grant s a n guest ceiling hold) := by
  obtain ⟨_, e⟩ := openJob_eq s a n guest ceiling hold
  rw [grant_eq_openJob]
  refine HoldLaw.refreshIdle (h.put (congrArg State.stations e) fun j hj => ?_) a
  cases hj
  exact withinHold_openingJob ..

theorem HoldLaw.applyApproval (a : Addr) (n : AccountNo) (guest : Bool) (ceiling : Option Nat) (hold : Nat) :
    HoldLaw (applyApproval s a n guest ceiling hold).state := (h.grant a n guest ceiling hold).placeCardResult a _

theorem HoldLaw.approveAccount (tag account : Nat) (hold : Option Nat) :
    HoldLaw (approveAccount tag account hold s).state := by
  unfold Machine.approveAccount
  split
  next =>
    split
    · exact h
    · split
      next => exact h
      next =>
        split
        next => exact h.declineToSlot _ _
        next => exact h.applyApproval _ _ _ _ _
  next => exact h

theorem HoldLaw.approveGuest (tag amount plan : Nat) (rights : Byte) :
    HoldLaw (approveGuest tag amount plan rights s).state := by
  unfold Machine.approveGuest
  split
  next =>
    split
    · exact h
    · split
      next => exact h
      next =>
        split
        next => exact h.declineToSlot _ _
        next n _ => exact (h.frame (t := setAccount s n _)).applyApproval _ _ _ _ _
  next => exact h

theorem HoldLaw.declineAnswer (tag why : Nat) : HoldLaw (declineAnswer tag why s).state := by
  unfold Machine.declineAnswer
  split
  next =>
    split
    · exact h
    · split
      next => exact h
      next => exact h.declineToSlot _ _
  next => exact h

/-! ### Station events -/

theorem HoldLaw.takeCard (number : Nat) (a : Addr) : HoldLaw (takeCard number s a).state := by
  unfold Machine.takeCard
  split
  next =>
    unfold authorizeCard
    dsimp only
    split
    next => exact h.takeRest a
    next => exact h.goOnline a _
    next => exact h.grant a _ _ _ _
  all_goals exact h

theorem HoldLaw.takeCancel (a : Addr) : HoldLaw (takeCancel s a).state := by
  unfold Machine.takeCancel
  split
  · exact h.endAuthorization a
  · exact h

theorem HoldLaw.grantFeed (a : Addr) {j : Job} {e : InFlight} (covered : projected j e ≤ j.hold) :
    HoldLaw (grantFeed s a j e).state := (h.setJob a (withinHold_admitEntry covered)).putSame rfl

/-- The hold check lets a sheet in only where the hold, extended if need be, covers the projected amount (R72, R80). -/
theorem HoldLaw.holdCheck (a : Addr) (j : Job) (e : InFlight) (within : WithinHold j) :
    HoldLaw (holdCheck s a j e).state := by
  unfold Machine.holdCheck
  split
  next covered => exact h.grantFeed a covered
  next =>
    split
    next covers =>
      have extended : HoldLaw (extend s a j) :=
        (h.frame (t := setAccount s j.account _)).setJob a (within.extended (offer s j).toNat)
      refine extended.grantFeed a ?_
      obtain ⟨_, covered⟩ := Bool.and_eq_true_iff.1 covers
      have covered : (projected j e : Int) ≤ j.hold + offer s j := of_decide_eq_true covered
      change projected j e ≤ j.hold + (offer s j).toNat
      omega
    next => exact (((h.withdrawResume a).enter a .held).setStation a _).startTimer a .holdWait

theorem HoldLaw.takeFeed (sheet : U16) (sides : Sides) (a : Addr) : HoldLaw (takeFeed sheet sides s a).state := by
  unfold Machine.takeFeed
  split
  next =>
    split
    next => exact h
    next j hj =>
      split
      next => exact h
      next => exact h.holdCheck a j _ (h a j hj)
  all_goals exact h

theorem HoldLaw.recordJam (a : Addr) (cause : JamCause) : HoldLaw (recordJam s a cause) :=
  h.putSame (a := a) (r := { s.stations.get a with engine := { (s.stations.get a).engine with lastJam := cause } }) rfl

theorem HoldLaw.enterJammed (a : Addr) : HoldLaw (enterJammed s a) := by
  have jammed := h.enter a .jammed
  refine HoldLaw.startTimer (jammed.put rfl fun j hj => ?_) a .jam
  obtain ⟨k, hk, rfl⟩ := Option.map_eq_some_iff.1 hj
  exact (holdLaw_iff.1 jammed a k hk).purged

theorem HoldLaw.takeJam (cause : JamCause) (a : Addr) : HoldLaw (takeJam cause s a).state := by
  have jam := h.recordJam a cause
  unfold Machine.takeJam
  dsimp only
  split
  iterate 2 next => exact jam.enterJammed a
  next => exact jam.closeJob a _ true
  all_goals exact jam

theorem HoldLaw.takeMatching (a : Addr) {j : Job} {e : InFlight} {rest : List InFlight} (within : WithinHold j)
    (head : j.inFlight = e :: rest) : HoldLaw (takeMatching s a j e rest).state := by
  have counted : HoldLaw (Machine.setJob (countSheet s a j.service e) a (deliverEntry j e rest)) :=
    (h.frame (t := countSheet s a j.service e)).setJob a (within.delivered head)
  unfold Machine.takeMatching
  dsimp only
  split
  · exact counted.closeJob a _ true
  · exact counted

theorem HoldLaw.takeDelivered (sheet : U16) (a : Addr) : HoldLaw (takeDelivered sheet s a).state := by
  have order : HoldLaw (orderError s a).state := h.takeJam .order a
  have matching : HoldLaw (matchDelivery sheet s a).state := by
    unfold matchDelivery
    split
    next => exact h
    next j hj =>
      split
      next => exact order
      next e rest head =>
        split
        · exact h.takeMatching a (h a j hj) head
        · exact order
  unfold Machine.takeDelivered
  split
  iterate 3 next => exact matching
  next => exact order
  all_goals exact h

theorem HoldLaw.takeRecovered (restart : U16) (a : Addr) : HoldLaw (takeRecovered restart s a).state := by
  unfold Machine.takeRecovered
  dsimp only
  split
  next j _ hj =>
    split
    · exact h
    · split
      · exact h
      · have restarted := (h.frame (t := meterWriteOff s a (restartWriteOff j restart.val))).setJob a
          (WithinHold.restarted (h a j hj) restart.val)
        exact ((restarted.enter a .active).refreshIdle a).frame
  next => exact h

theorem HoldLaw.takeStatus (f : EngineFlags) (a : Addr) : HoldLaw (takeStatus f s a).state := by
  have noted := h.setStation a { s.stations.get a with engine := statusEngine (s.stations.get a).engine f }
  unfold Machine.takeStatus
  change HoldLaw (if _ then _ else _)
  split
  · exact noted
  · exact noted.frame

theorem HoldLaw.takeFinish (a : Addr) : HoldLaw (takeFinish s a).state := by
  unfold Machine.takeFinish
  split
  iterate 2 next => exact h.beginClosing a _
  next => exact h.closeJob a _ true
  all_goals exact h

/-! ### The floor link -/

theorem HoldLaw.endExchange : HoldLaw (endExchange s) := by
  unfold Machine.endExchange
  dsimp only
  split <;> exact h.frame

theorem HoldLaw.foundPresent (a : Addr) (token : U16) (caps : Capabilities) :
    HoldLaw (foundPresent s a token caps) := by
  refine HoldLaw.takeRest ?_ a
  split
  · exact h.frame
  · exact h.putSame (a := a) rfl

theorem HoldLaw.foundMissing (a : Addr) (p : Presence) : HoldLaw (foundMissing s a p) :=
  (h.frame (t := setPresence s a _)).takeRest a

theorem HoldLaw.sweepOutcome (a : Addr) (x y : FirstReply) (caps : Capabilities) :
    HoldLaw (sweepOutcome s a x y caps) := by
  unfold Machine.sweepOutcome
  split
  · exact h.foundPresent a _ caps
  · exact h.foundMissing a _

theorem HoldLaw.nextTurn (a : Addr) : HoldLaw (nextTurn s a) := by
  unfold Machine.nextTurn
  split <;> exact h.frame

theorem HoldLaw.probeTurn (x : Option ProbeReply) : HoldLaw (probeTurn s x) := by
  unfold Machine.probeTurn
  split
  next => exact h.frame
  next a _ _ => exact (h.sweepOutcome a _ _ _).nextTurn a
  next a _ =>
    split
    · exact (h.foundPresent a _ _).endExchange
    · exact h.endExchange
  all_goals exact h

theorem HoldLaw.detach (a : Addr) : HoldLaw (detach s a) :=
  ((h.enter a .detached).setStation a _).startTimer a .reconnectGrace

theorem HoldLaw.loseStation (a : Addr) : HoldLaw (loseStation s a) := by
  unfold Machine.loseStation
  split
  iterate 4 next => exact h.detach a
  next => exact (h.declineToSlot a .stationLost).frame
  iterate 3 next => exact (h.enter a .offline).frame
  next => exact h

theorem HoldLaw.missPoll (a : Addr) : HoldLaw (missPoll s a) := by
  unfold Machine.missPoll
  dsimp only
  split
  next =>
    split
    · exact (h.frame (t := setPresence s a _)).loseStation a
    · exact h.frame
  next => exact h.frame
  all_goals exact h

theorem HoldLaw.returnStation (a : Addr) : HoldLaw (returnStation s a) := by
  have back (st : StationState) : HoldLaw (backTo s a st) := (h.enter a st).setStation a _
  unfold Machine.returnStation
  split
  · unfold restoreStation
    split
    · exact (back .active).refreshIdle a
    · exact ((back .held).startTimer a .holdWait).retryStation a
    · exact (back .jammed).startTimer a .jam
    · exact (back .closing).startTimer a .drain
    · exact h
  · exact h.takeRest a

theorem HoldLaw.returnIf (lost : Bool) (a : Addr) : HoldLaw (returnIf lost s a) := by
  cases lost
  · exact h
  · exact h.returnStation a

theorem HoldLaw.restartStation (a : Addr) : HoldLaw (restartStation s a) := by
  unfold Machine.restartStation
  refine HoldLaw.setStation ?_ a _
  split
  next => exact h.declineToSlot a _
  iterate 5 next => exact h.closeToSlot a _
  all_goals exact h.takeRest a

theorem HoldLaw.takeHello (token : U16) (caps : Capabilities) (a : Addr) (lost : Bool) :
    HoldLaw (takeHello token caps a lost s) := by
  unfold Machine.takeHello
  split
  · exact (h.returnIf lost a).frame
  · exact (h.frame (t := setPresence (clearToggle s a) a _)).restartStation a

theorem HoldLaw.takeEvent (toggle : Bool) (kind : EventKind) {ju : State → Addr → EventResult}
    (taken : ∀ t b, HoldLaw t → HoldLaw (ju t b).state) (a : Addr) (lost : Bool) :
    HoldLaw (takeEvent toggle kind ju a lost s) := by
  have back := h.returnIf lost a
  unfold Machine.takeEvent
  dsimp only
  split
  · unfold repeatAnswer
    split
    · exact back.frame
    · exact back
  · split
    · exact back
    · exact ((taken _ a back).refreshIdle a).frame

theorem HoldLaw.stationReply (addr : Nat) {f : Addr → Bool → State → State}
    (taken : ∀ a lost t, HoldLaw t → HoldLaw (f a lost t)) : HoldLaw (stationReply addr s f) := by
  unfold Machine.stationReply
  split
  next a sent _ =>
    refine HoldLaw.endExchange ?_
    split
    · unfold validReply
      dsimp only
      split
      · exact taken a _ _ (h.frame (t := heard s a sent))
      · exact h
    · exact h.missPoll a
  iterate 3 next => exact h.probeTurn _
  next => exact h

theorem HoldLaw.event (addr : Nat) (toggle : Bool) (kind : EventKind) {ju : State → Addr → EventResult}
    (taken : ∀ t b, HoldLaw t → HoldLaw (ju t b).state) :
    HoldLaw (Machine.stationReply addr s (Machine.takeEvent toggle kind ju)) :=
  h.stationReply addr fun a lost _ g => g.takeEvent toggle kind taken a lost

theorem HoldLaw.garbled : HoldLaw (garbled s) := by
  unfold Machine.garbled
  split
  · exact (h.missPoll _).endExchange
  · exact h.probeTurn _

theorem HoldLaw.missed : HoldLaw (missed s) := by
  unfold Machine.missed
  split
  · exact (h.missPoll _).endExchange
  · exact h.probeTurn _

/-! ### Requests -/

theorem HoldLaw.endJob (addr : Nat) : HoldLaw (endJob addr s).state := by
  unfold Machine.endJob
  split
  next => exact h
  next a _ =>
    split
    iterate 3 next => exact h
    next => exact h.declineToSlot a _
    iterate 4 next => exact h.forceClose a
    next => exact h

theorem HoldLaw.applyAdjust (n : AccountNo) (delta : Int) (why : Nat) : HoldLaw (applyAdjust n delta why s).state := by
  refine HoldLaw.noticeLevel ?_
  split
  · exact (h.frame (t := writeRecord (setAccount s n _) _)).retryAccount n
  · exact h.frame

theorem HoldLaw.adjustAccount (account : Nat) (delta : Int) (why : Nat) :
    HoldLaw (adjustAccount account delta why s).state := by
  unfold Machine.adjustAccount
  split
  · exact h
  · split
    · exact h
    · split
      · exact h
      · split
        · exact h
        · exact h.applyAdjust _ delta why

theorem HoldLaw.acknowledgeJournal (n : Nat) : HoldLaw (acknowledgeJournal n s).state := by
  unfold Machine.acknowledgeJournal
  split
  · exact h
  · split
    · exact h
    · dsimp only
      split
      · exact h
      · exact h.frame

theorem HoldLaw.writeAccount (p : AccountPayload) : HoldLaw (writeAccount p s).state := by
  unfold Machine.writeAccount
  split
  · split
    · exact h
    · dsimp only
      split
      · exact h
      · exact h.frame
  · exact h

theorem HoldLaw.setAccountLimits (account : Nat) (limit plan discount : Option Nat) (rights : Option Byte) :
    HoldLaw (setAccountLimits account limit plan discount rights s).state := by
  unfold Machine.setAccountLimits
  split
  next n _ _ _ _ _ =>
    dsimp only
    split
    · exact h
    · exact (h.frame (t := setAccount s n _)).retryIfRisen _ n
  next => exact h

theorem HoldLaw.setAccountStatus (account status : Nat) : HoldLaw (setAccountStatus account status s).state := by
  unfold Machine.setAccountStatus
  split
  next n _ _ =>
    unfold unloadAccount
    dsimp only
    split
    · exact h
    · split
      · exact h
      · exact h.frame
  next n st _ _ _ =>
    unfold changeStatus
    dsimp only
    split
    · exact h
    · split
      · exact h
      · have changed : HoldLaw (setAccount s n { s.accounts.get n with status := st }) := h.frame
        change HoldLaw (if _ then _ else _)
        split
        · exact changed.retryAccount n
        · exact changed
  next => exact h

theorem HoldLaw.changedAccounts : HoldLaw (changedAccounts s).state := by
  simp only [Machine.changedAccounts, accept_state]
  exact h.foldl (fun _ _ g => g.frame) _

theorem HoldLaw.writeCard (p : CardPayload) : HoldLaw (writeCard p s).state := by
  unfold Machine.writeCard
  split
  · split
    · exact h
    · split
      · exact h
      · exact h.frame
  · exact h

theorem HoldLaw.removeCard (n : Nat) : HoldLaw (removeCard n s).state := by
  unfold Machine.removeCard
  split
  · exact h
  · split
    · exact h
    · exact h.frame

theorem HoldLaw.writePlan (p : PlanPayload) : HoldLaw (writePlan p s).state := by
  unfold Machine.writePlan
  split
  · split
    · exact h
    · split
      · exact h
      · exact h.frame
  · exact h

theorem HoldLaw.rescanFloor : HoldLaw (rescanFloor s).state := by
  unfold Machine.rescanFloor
  split
  · exact h
  · split <;> exact h.frame

theorem HoldLaw.openWindow (table start count : Nat) : HoldLaw (openWindow table start count s).state := by
  unfold Machine.openWindow
  split
  · exact h
  · split
    · exact h
    · exact h.frame

theorem HoldLaw.windowWrite (t : WindowTable) (index : Nat) (record : WindowRecord) (x : Reply)
    (written : windowWrite t index record s = some x) : HoldLaw x.state := by
  unfold Machine.windowWrite at written
  split at written
  next p =>
    cases written
    split
    · exact h.writeAccount p
    · exact h
  next p => cases written; exact h.writeCard p
  next p =>
    cases written
    split
    · exact h.writePlan p
    · exact h
  next => cases written

theorem HoldLaw.windowData (index : Nat) (record : WindowRecord) : HoldLaw (windowData index record s).state := by
  unfold Machine.windowData
  split
  next => exact h
  next w _ =>
    split
    · exact h
    · split
      next => exact h.frame
      next x written => exact (h.windowWrite w.table index record x written).frame

theorem HoldLaw.panelText (dest : Nat) (p : PanelPayload) : HoldLaw (panelText dest p s).state := by
  unfold Machine.panelText
  split
  · exact h.frame
  · split
    · exact h
    · split
      · exact h.foldl (fun _ _ g => g.frame) _
      · split
        · unfold panelToOne
          split
          · exact h
          · split
            · exact h.frame
            · exact h
        · exact h

theorem HoldLaw.presetMeters (addr : Nat) (v : Meters (Option Nat)) : HoldLaw (presetMeters addr v s).state := by
  unfold Machine.presetMeters
  split
  · exact h
  · split
    · exact h
    · exact h.frame

theorem HoldLaw.setFreeVend (value : Nat) : HoldLaw (setFreeVend value s).state := by
  unfold Machine.setFreeVend
  split
  · exact h
  · exact h.frame

theorem HoldLaw.endAuthorizations : HoldLaw (endAuthorizations s) :=
  (h.frame (t := { s with waitQueue := [] })).foldl (fun _ a g => g.declineToSlot a _) _

theorem HoldLaw.forceAll (as : List Addr) : HoldLaw (forceAll s as) :=
  (h.tickOrder as).foldl (fun _ a g => g.forceClose a) _

theorem HoldLaw.changeMode (m : ShopMode) : HoldLaw (changeMode m s).state := by
  have forced (as : List Addr) : HoldLaw (Machine.forceAll (Machine.endAuthorizations { s with mode := m }) as) :=
    (h.frame (t := { s with mode := m })).endAuthorizations.forceAll as
  unfold Machine.changeMode
  change HoldLaw (if _ then _ else _)
  split
  · exact (forced _).foldl (fun _ a g => g.takeRest a) _
  · exact forced _

theorem HoldLaw.setMode (mode : Nat) : HoldLaw (setMode mode s).state := by
  unfold Machine.setMode
  split
  · exact h
  · split
    · exact h
    · exact h.changeMode _

theorem HoldLaw.disableStation (a : Addr) : HoldLaw (disableStation s a) := by
  unfold Machine.disableStation
  split
  iterate 2 next => exact h
  next => exact h.takeRest a
  next => exact h.declineToSlot a _
  iterate 4 next => exact h.forceClose a
  next => exact h

theorem HoldLaw.setStationEnable (addr value : Nat) : HoldLaw (setStationEnable addr value s).state := by
  unfold Machine.setStationEnable
  split
  next a b _ _ =>
    split
    · exact h
    · have set : HoldLaw { s with adminEnable := s.adminEnable.set a b } := h.frame
      change HoldLaw (if _ then _ else _)
      split
      · unfold enableStation
        split
        · exact set.takeRest a
        · exact set
      · exact set.disableStation a
  next => exact h

theorem HoldLaw.noticeSent (e : NoticeEntry) : HoldLaw (noticeSent s e) := by
  cases e with
  | stationStatus a => exact h.setStation a _
  | authRequest _ | journalLevel => exact h

end

/-! ### Reports -/

theorem readStation_state (addr : Nat) (s : State) : (readStation addr s).state = s := by
  unfold readStation
  split <;> rfl

theorem readMeters_state (addr : Nat) (s : State) : (readMeters addr s).state = s := by
  unfold readMeters
  split <;> rfl

theorem readPlan_state (plan : Nat) (s : State) : (readPlan plan s).state = s := by
  unfold readPlan
  split <;> rfl

theorem readAccount_state (account : Nat) (s : State) : (readAccount account s).state = s := by
  unfold readAccount
  split <;> rfl

theorem readCard_state (card : Nat) (s : State) : (readCard card s).state = s := by
  unfold readCard
  split
  · rfl
  · split <;> rfl

/-! ### Resets -/

theorem holdLaw_of_empty {s : State} (empty : ∀ a, s.stations.get a = Station.reset) : HoldLaw s := by
  intro a j hj
  rw [jobAt, empty] at hj
  cases hj

theorem holdLaw_fullReset (s : State) : HoldLaw (fullReset s) := holdLaw_of_empty stations_reset

theorem holdLaw_floorDown (s : State) : HoldLaw (floorDown s) := holdLaw_of_empty fun a => Table.get_fill _ a

/-! ### Every command -/

theorem HoldLaw.whenRunning {s t : State} (h : HoldLaw s) {f : State → State} (ht : whenRunning s f = .next t)
    (hf : HoldLaw (f s)) : HoldLaw t := by
  cases ht
  split
  · exact h
  · exact hf

theorem HoldLaw.request {k : OfficeKind} {req : Nat} {s t : State} (h : HoldLaw s) {f : State → Reply}
    (ht : request k req s f = .next t) (hf : ∀ {u : State}, HoldLaw u → HoldLaw (f u).state) : HoldLaw t :=
  h.whenRunning ht (hf (h.frame (t := { s with window := none }))).frame

theorem HoldLaw.expire {k : TimerKind} {addr : Nat} {s t : State} (h : HoldLaw s) {f : State → Addr → State}
    (ht : expire k addr s f = .next t) (hf : ∀ a, HoldLaw (f s a)) : HoldLaw t := by
  refine h.whenRunning ht ?_
  unfold atAddr
  split
  next a _ =>
    dsimp only
    split
    · exact hf a
    · exact h
  next => exact h

/-- Every command keeps each open job's committed total within its hold (R73). -/
theorem HoldLaw.exec {c : Instr} {s t : State} (h : HoldLaw s) (ht : exec c s = .next t) : HoldLaw t := by
  unfold Machine.exec at ht
  cases c with
  | identify _ | readStatus _ | readJournal _ => exact h.request ht fun g => g
  | readStation _ addr => exact h.request ht fun g => by rwa [readStation_state]
  | readMeters _ addr => exact h.request ht fun g => by rwa [readMeters_state]
  | readPlan _ p => exact h.request ht fun g => by rwa [readPlan_state]
  | readAccount _ n => exact h.request ht fun g => by rwa [readAccount_state]
  | readCard _ n => exact h.request ht fun g => by rwa [readCard_state]
  | writeAccount _ p => exact h.request ht fun g => g.writeAccount p
  | setAccountLimits _ n l p d x => exact h.request ht fun g => g.setAccountLimits n l p d x
  | setAccountStatus _ n st => exact h.request ht fun g => g.setAccountStatus n st
  | changedAccounts _ => exact h.request ht fun g => g.changedAccounts
  | adjustAccount _ n d why => exact h.request ht fun g => g.adjustAccount n d why
  | writeCard _ p => exact h.request ht fun g => g.writeCard p
  | removeCard _ n => exact h.request ht fun g => g.removeCard n
  | writePlan _ p => exact h.request ht fun g => g.writePlan p
  | approveAccount _ tag n hold => exact h.request ht fun g => g.approveAccount tag n hold
  | approveGuest _ tag amount plan x => exact h.request ht fun g => g.approveGuest tag amount plan x
  | decline _ tag why => exact h.request ht fun g => g.declineAnswer tag why
  | endJob _ addr => exact h.request ht fun g => g.endJob addr
  | acknowledgeJournal _ n => exact h.request ht fun g => g.acknowledgeJournal n
  | presetMeters _ addr v => exact h.request ht fun g => g.presetMeters addr v
  | setMode _ m => exact h.request ht fun g => g.setMode m
  | setFreeVend _ v => exact h.request ht fun g => g.setFreeVend v
  | setStationEnable _ addr v => exact h.request ht fun g => g.setStationEnable addr v
  | rescanFloor _ => exact h.request ht fun g => g.rescanFloor
  | setTimers _ _ | pause _ | unpause _ => exact h.request ht fun g => g.frame
  | openWindow _ x y z => exact h.request ht fun g => g.openWindow x y z
  | windowData _ n x => exact h.whenRunning ht (h.windowData n x).frame
  | panelText _ dest p => exact h.whenRunning ht (h.panelText dest p).frame
  | resetFull _ => exact h.request ht fun _ => holdLaw_fullReset _
  | resetFloor _ => exact h.request ht fun _ => holdLaw_floorDown _
  | discardedFrame => exact h.whenRunning ht h
  | badRequestFrame dest kind _ =>
    refine h.whenRunning ht (HoldLaw.frame (s := if closesWindow dest kind then { s with window := none } else s) ?_)
    split
    · exact h.frame
    · exact h
  | resetPinAssert =>
    cases ht
    exact (holdLaw_fullReset s).frame
  | resetPinRelease =>
    cases ht
    split
    · exact holdLaw_fullReset s
    · exact h
  | sendResponse =>
    refine h.whenRunning ht ?_
    split
    · exact h
    · exact h.frame
  | sendNotice =>
    refine h.whenRunning ht ?_
    split
    · exact h
    · split
      · exact h
      next e q _ => exact (h.frame (t := { s with notices := q, officeTx := _ })).noticeSent e
  | visit | absentProbe =>
    refine h.whenRunning ht ?_
    split
    · split
      · exact h.frame
      · exact h
    · exact h
  | sweepReply _ | probeReply _ =>
    refine h.whenRunning ht ?_
    split
    · exact h.probeTurn _
    · exact h
  | nothing addr => exact h.whenRunning ht (h.stationReply addr fun a lost _ g => g.returnIf lost a)
  | hello addr token caps =>
    exact h.whenRunning ht (h.stationReply addr fun a lost _ g => g.takeHello token caps a lost)
  | garbledReply => exact h.whenRunning ht h.garbled
  | missedReply => exact h.whenRunning ht h.missed
  | card addr toggle n =>
    refine h.whenRunning ht ?_
    split
    · exact h.event addr toggle _ fun _ a g => g.takeCard n a
    · exact h.garbled
  | cancel addr toggle => exact h.whenRunning ht (h.event addr toggle _ fun _ a g => g.takeCancel a)
  | feed addr toggle n x => exact h.whenRunning ht (h.event addr toggle _ fun _ a g => g.takeFeed n x a)
  | delivered addr toggle n => exact h.whenRunning ht (h.event addr toggle _ fun _ a g => g.takeDelivered n a)
  | jam addr toggle x => exact h.whenRunning ht (h.event addr toggle _ fun _ a g => g.takeJam _ a)
  | recovered addr toggle n => exact h.whenRunning ht (h.event addr toggle _ fun _ a g => g.takeRecovered n a)
  | status addr toggle f => exact h.whenRunning ht (h.event addr toggle _ fun _ a g => g.takeStatus f a)
  | finish addr toggle => exact h.whenRunning ht (h.event addr toggle _ fun _ a g => g.takeFinish a)
  | authorizationTimerExpiry _ => exact h.expire ht fun a => h.declineToSlot a _
  | idleTimerExpiry _ | holdWaitTimerExpiry _ => exact h.expire ht fun a => h.beginClosingToSlot a _
  | jamTimerExpiry _ | drainTimerExpiry _ | reconnectGraceExpiry _ => exact h.expire ht fun a => h.closeToSlot a _
  | lossTimerExpiry addr =>
    refine h.whenRunning ht ?_
    unfold atAddr
    split
    · dsimp only
      split
      · exact h.foundMissing _ _
      · exact h
    · exact h

/-- Settles O52: the hold check keeps what a feed adds within the hold, and nothing else raises a committed total. -/
theorem stepKeepsTheHoldLaw : Obligations.StepKeepsTheHoldLaw := by
  intro s t h ht
  unfold step at ht
  split at ht
  next =>
    cases ht
    exact h.tick
  next c rest _ => exact (h.frame (t := { s with pending := rest })).exec ht

end Sys2Proof.Machine

namespace Sys2Proof.Machine

set_option Elab.async false

/-! ## Retries on new funds (R80, R85, R86) -/

/-! ### One retry -/

/-- The offer that covers the wanted amount, in the words of the statements (R80). -/
theorem offerCovers_iff {s : State} {j : Job} {wanted : Nat} :
    offerCovers s j wanted = true ↔ 0 < offered s j ∧ (wanted : Int) ≤ j.hold + offered s j := by
  rw [offerCovers, offer_eq_offered, Bool.and_eq_true, decide_eq_true_iff, decide_eq_true_iff]

theorem jobOn_iff {s : State} {n : AccountNo} {a : Addr} :
    jobOn s n a = true ↔ (jobAt s a).map Job.account = some n := by
  unfold jobOn jobAt
  cases (s.stations.get a).job <;> simp

/-- A HELD station is retried by its offer (R86). -/
theorem retryStation_of_held {s : State} {a : Addr} {j : Job} {wanted : Nat} (held : (s.stations.get a).state = .held)
    (hj : jobAt s a = some j) (amount : (s.stations.get a).wanted = some wanted) :
    retryStation s a = if offerCovers s j wanted then resumed s a j else s := by
  have job : (s.stations.get a).job = some j := hj
  simp only [retryStation, held, job, amount, resumeStation_extend]

theorem retryStation_of_not_held {s : State} {a : Addr} (other : (s.stations.get a).state ≠ .held) :
    retryStation s a = s :=
  (retryStation_cases s a).resolve_right fun ⟨_, _, held, _⟩ => other held

/-- A station resumed is seated ACTIVE, with RESUME in its slot and its account's holds total raised (R80, R86). -/
theorem resumed_eq_seat (s : State) (a : Addr) (j : Job) : resumed s a j =
    seat { s with
      accounts := s.accounts.set j.account { s.accounts.get j.account with
        holdsTotal := (s.accounts.get j.account).holdsTotal + (offered s j).toNat }
      awaiting := forgot s.awaiting a [.resume]
      presence := s.presence.set a { s.presence.get a with resume := true } } a
      (idled s.timers { s.stations.get a with
        state := .active, timer := none, wanted := none
        job := some { j with hold := j.hold + (offered s j).toNat } }) := by
  simp only [resumed, seat, idled_state, Table.get_set_self, Table.set_set, offer_eq_offered]
  rfl

/-- A retry changes no account but in its holds total (R80, R86). -/
theorem retryStation_account (s : State) (a : Addr) (k : AccountNo) :
    { (retryStation s a).accounts.get k with holdsTotal := 0 } = { s.accounts.get k with holdsTotal := 0 } := by
  obtain e | ⟨j, _, _, _, _, _, e⟩ := retryStation_cases s a <;> rw [e]
  by_cases own : k = j.account
  · subst own
    simp [resumed]
  · simp [resumed, Table.get_set_ne _ _ (Ne.symm own)]

/-! ### The retries on an account -/

/-- One step of the retries on `n` from `s` (R85): the station is retried when it is HELD in `s` with a job on `n`. -/
def retryHeld (s : State) (n : AccountNo) (u : State) (b : Addr) : State :=
  if (s.stations.get b).state = .held ∧ (jobAt s b).map Job.account = some n then retryStation u b else u

/-- The retries on `n` make no station HELD and move no job to another account, so whether a station is retried can be
read off before the first of them. -/
theorem retry_eq_retryHeld {n : AccountNo} {s u : State} (h : Retried n s u) (b : Addr) :
    (if jobOn u n b then retryStation u b else u) = retryHeld s n u b := by
  have station := h.stations b
  unfold retryHeld
  by_cases held : (s.stations.get b).state = .held
  · by_cases on : (jobAt s b).map Job.account = some n
    · obtain ⟨j, hj, account⟩ := Option.map_eq_some_iff.1 on
      obtain ⟨hold, after⟩ := station.job hj
      rw [if_pos (jobOn_iff.2 (by rw [after, Option.map_some, account])), if_pos (And.intro held on)]
    · obtain ⟨same, _⟩ | ⟨_, _, _, j, _, hj, account, _⟩ := station
      · have out : ¬ jobOn u n b = true := by
          rw [jobOn_iff, jobAt, same]
          exact on
        rw [if_neg out, if_neg (on ·.2)]
      · exact absurd (by rw [hj, Option.map_some, account]) on
  · have still : retryStation u b = u := retryStation_of_not_held (by rw [(station.same held).1]; exact held)
    rw [still, ite_self, ite_self]

theorem foldl_retry_eq_retryHeld {n : AccountNo} {s u : State} (h : Retried n s u) (l : List Addr) :
    l.foldl (fun u b => if jobOn u n b then retryStation u b else u) u = l.foldl (retryHeld s n) u := by
  induction l generalizing u with
  | nil => rfl
  | cons b l ih =>
    have retried : Retried n s (if jobOn u n b then retryStation u b else u) := by
      split
      next on => exact h.trans (retried_retryStation on)
      next => exact h
    rw [List.foldl_cons, List.foldl_cons, ih retried, retry_eq_retryHeld h]

theorem retryAccount_eq_foldl_retryHeld (s : State) (n : AccountNo) :
    retryAccount s n = (List.finRange 16).foldl (retryHeld s n) s :=
  foldl_retry_eq_retryHeld (.refl n s) allAddrs

/-- The retries on an account change no account but in its holds total (R80, R85). -/
theorem retryAccount_account (s : State) (n k : AccountNo) :
    { (retryAccount s n).accounts.get k with holdsTotal := 0 } = { s.accounts.get k with holdsTotal := 0 } := by
  rw [retryAccount]
  generalize allAddrs = l
  induction l generalizing s with
  | nil => rfl
  | cons a l ih =>
    rw [List.foldl_cons, ih]
    split
    · exact retryStation_account s a k
    · rfl

/-- Settles O37: a retry is a seat of the station when its offer covers the wanted amount; the retries on an account
keep their frame, and which stations they touch is settled before the first. -/
theorem retriesOnNewFunds : Obligations.RetriesOnNewFunds := by
  intro s n a j wanted
  have retried := retried_retryAccount n s
  refine ⟨fun held hj amount => ?_, retryAccount_eq_foldl_retryHeld s n, fun b untouched => ?_, retried.accounts,
    retryAccount_account s n n, retried.frame⟩
  · rw [retryStation_of_held held hj amount, resumed_eq_seat]
    exact if_congr offerCovers_iff rfl rfl
  · refine (retried.stations b).resolve_right fun ⟨held, _, _, k, _, hk, account, _⟩ => ?_
    exact untouched.elim (· held) (· (by rw [hk, Option.map_some, account]))

end Sys2Proof.Machine

namespace Sys2Proof.Machine

set_option Elab.async false

/-! ## RECOVERED (R105 to R107, R109) -/

/-- A station restarted at `r`: the write-off on its meter, the notice, and ACTIVE with the restarted job (R106). -/
def restartedAt (s : State) (a : Addr) (j : Job) (r : Nat) : State :=
  seat { s with
    meters := s.meters.set a { s.meters.get a with
      writtenOff := rolled (s.meters.get a).writtenOff (restartWriteOff j r) }
    notices := placeIn (.stationStatus a) s.notices } a
    (idled s.timers { s.stations.get a with state := .active, timer := none, job := some (restartJob j r) })

theorem acceptRestart_eq (s : State) (a : Addr) (j : Job) (r : Nat) :
    acceptRestart s a j r = plainAnswer (restartedAt s a j r) (.restarted r (restartWriteOff j r)) := by
  simp only [acceptRestart, enter_eq_seat, refreshIdle_seat, setJob, seat_setStation, setStation_stations,
    Table.get_set_self]
  rfl

/-- The idle timer that a restart starts is not changed by the answer's refresh (R53). -/
theorem refreshIdle_restartedAt (s : State) (a : Addr) (j : Job) (r : Nat) :
    refreshIdle (restartedAt s a j r) a = restartedAt s a j r := by
  rw [restartedAt, refreshIdle_seat]
  exact congrArg _ (idled_idled ..)

/-- In JAMMED a RECOVERED is judged by readiness, then by its restart number (R105). -/
theorem takeRecovered_of_jammed {s : State} {a : Addr} {j : Job} (jammed : (s.stations.get a).state = .jammed)
    (hj : jobAt s a = some j) (restart : U16) : takeRecovered restart s a =
      if (s.stations.get a).engine.flags.doorOpen = true ∨ (s.stations.get a).engine.flags.engineReady = false then
        plainAnswer s .notReady
      else if restart.val = 0 ∨ j.highest + 1 < restart.val then plainAnswer s .protocol
      else acceptRestart s a j restart.val := by
  have job : (s.stations.get a).job = some j := hj
  simp only [takeRecovered, jammed, job, Bool.or_eq_true, Bool.not_eq_true']

/-- Outside JAMMED a RECOVERED is ignored (R109). -/
theorem takeRecovered_of_not_jammed {s : State} {a : Addr} (other : (s.stations.get a).state ≠ .jammed)
    (restart : U16) : takeRecovered restart s a = plainAnswer s .ignored := by
  unfold takeRecovered
  dsimp only
  split
  next jammed _ => exact absurd jammed other
  next => rfl

/-- Settles O30: a refused RECOVERED leaves the station JAMMED as it is; an accepted one seats it ACTIVE. -/
theorem recoveryRestartsAtItsNumber : Obligations.RecoveryRestartsAtItsNumber := by
  intro s a sent toggle restart j taking
  refine ⟨fun jammed hj => ?_, fun other =>
    whenRunning_plain taking .recovered (takeRecovered_of_not_jammed (s := heard s a sent) other restart)⟩
  have still : (heard s a sent).stations.get a = s.stations.get a := rfl
  have inactive : ((heard s a sent).stations.get a).state ≠ .active := by
    rw [still, jammed]
    exact nofun
  have result := takeRecovered_of_jammed (s := heard s a sent) jammed hj restart
  rw [still] at result
  dsimp only
  split at result
  next unready =>
    rw [if_pos unready]
    exact whenRunning_inactive taking .recovered rfl result inactive
  next ready =>
    rw [if_neg ready]
    split at result
    next outside =>
      rw [if_pos outside]
      exact whenRunning_inactive taking .recovered rfl result inactive
    next within =>
      rw [acceptRestart_eq] at result
      rw [if_neg within]
      refine (whenRunning_event taking .recovered result taking.1.2.2.2).trans ?_
      rw [plainAnswer, refreshIdle_restartedAt]
      rfl

/-! ## The office link's arbiter (R104, R129, R158, R159) -/

theorem exec_sendResponse {s : State} (low : s.resetLow = false) :
    exec .sendResponse s = .next (match s.responses with
      | [] => s
      | r :: q => { s with responses := q, officeTx := [.response r] }) := by
  cases waiting : s.responses with
  | nil => rw [exec, execSendResponse, whenRunning_eq _ _ low, waiting]
  | cons r q => rw [exec, execSendResponse, whenRunning_eq _ _ low, waiting]

/-- A waiting response, a pause or an empty queue keeps SEND_NOTICE from sending (R158). -/
theorem exec_sendNotice_of_blocked {s : State} (low : s.resetLow = false)
    (blocked : s.responses ≠ [] ∨ s.paused = true ∨ s.notices = []) : exec .sendNotice s = .next s := by
  rw [exec, execSendNotice, whenRunning_eq _ _ low]
  split
  next => rfl
  next free =>
    obtain waits | paused | empty := blocked
    · simp [waits] at free
    · simp [paused] at free
    · rw [empty]

/-- The head of the notice queue goes out, its contents read at that moment (R158, R159). -/
theorem exec_sendNotice_of_free {s : State} (low : s.resetLow = false) (none : s.responses = [])
    (unpaused : s.paused = false) {e : NoticeEntry} {q : List NoticeEntry} (queue : s.notices = e :: q) :
    exec .sendNotice s = .next (noticeSent { s with notices := q, officeTx := [.notice (readNotice s e)] } e) := by
  have free : ¬ (!s.responses.isEmpty || s.paused) = true := by simp [none, unpaused]
  rw [exec, execSendNotice, whenRunning_eq _ _ low, if_neg free, queue]

/-- Settles O45: the oldest response; no notice while one waits or notices are paused; else the queue's head, by its
kind. -/
theorem framesGoOutByTheArbiter : Obligations.FramesGoOutByTheArbiter := by
  intro s low
  refine ⟨exec_sendResponse low, exec_sendNotice_of_blocked low, fun none unpaused => ?_⟩
  have sends {e : NoticeEntry} {q : List NoticeEntry} (queue : s.notices = e :: q) :=
    exec_sendNotice_of_free low none unpaused queue
  exact ⟨fun _ _ queue => sends queue, fun _ _ queue => sends queue, fun _ queue => sends queue⟩

end Sys2Proof.Machine

namespace Sys2Proof.Machine

set_option Elab.async false

/-! ## The journal's requests (R126, R127) -/

/-! ### The steps from the head's number to another -/

/-- The steps fall by one when the count starts one number later, until they have run through all 65,535 numbers
(R118). -/
theorem sequenceSteps_of_seqFollows {h next n : Nat} (follows : seqFollows h next) (head : 1 ≤ h ∧ h ≤ 65535)
    (number : 1 ≤ n ∧ n ≤ 65535) (short : sequenceSteps next n + 1 < 65535) :
    sequenceSteps h n = sequenceSteps next n + 1 := by
  have last : Config.lastSequence = 65535 := rfl
  unfold sequenceSteps at short ⊢
  unfold seqFollows at follows
  split at follows <;> split at short <;> split <;> omega

/-- In a chain of sequence numbers the steps from the first to the one in place `k` are `k`. -/
theorem sequenceSteps_eq_place {h k n : Nat} {l : List Nat} (chain : List.IsChain seqFollows (h :: l))
    (range : ∀ m ∈ h :: l, 1 ≤ m ∧ m ≤ 65535) (place : (h :: l)[k]? = some n) (short : k < 65535) :
    sequenceSteps h n = k := by
  induction k generalizing h l with
  | zero =>
    obtain rfl : h = n := by simpa using place
    simp [sequenceSteps]
  | succ k ih =>
    cases l with
    | nil => simp at place
    | cons next l =>
      obtain ⟨follows, chain⟩ := List.isChain_cons_cons.1 chain
      have tail : sequenceSteps next n = k :=
        ih chain (fun m hm => range m (List.mem_cons_of_mem _ hm)) (by simpa using place) (by omega)
      rw [sequenceSteps_of_seqFollows follows (range h List.mem_cons_self) (range n (List.mem_of_getElem? place))
        (by omega), tail]

/-- Equal steps from one number lead to one number. -/
theorem eq_of_sequenceSteps_eq {h m n : Nat} (head : 1 ≤ h ∧ h ≤ 65535) (first : 1 ≤ m ∧ m ≤ 65535)
    (second : 1 ≤ n ∧ n ≤ 65535) (steps : sequenceSteps h m = sequenceSteps h n) : m = n := by
  have last : Config.lastSequence = 65535 := rfl
  unfold sequenceSteps at steps
  split at steps <;> split at steps <;> omega

/-! ### ACKNOWLEDGE JOURNAL (R127) -/

theorem acknowledgeJournal_badRequest (s : State) {n : Nat} (out : n = 0 ∨ 65535 < n) :
    acknowledgeJournal n s = refuse .badRequest s := if_pos out

theorem acknowledgeJournal_of_nil {s : State} {n : Nat} (empty : s.journal = []) (least : 1 ≤ n) (most : n ≤ 65535) :
    acknowledgeJournal n s = refuse .badSequence s := by
  have last : Config.lastSequence = 65535 := rfl
  rw [acknowledgeJournal, if_neg (by omega), empty]
  rfl

/-- Over a journal with a head record, the steps to the number say whether it is there and what goes (R127). -/
theorem acknowledgeJournal_of_cons {s : State} {head : JournalRecord} {q : List JournalRecord} {n : Nat}
    (queue : s.journal = head :: q) (least : 1 ≤ n) (most : n ≤ 65535) : acknowledgeJournal n s =
      if s.journal.length ≤ sequenceSteps head.sequence n then refuse .badSequence s
      else accept (.acknowledged (sequenceSteps head.sequence n + 1)
          (headSequence (s.journal.drop (sequenceSteps head.sequence n + 1)))
          (s.journal.drop (sequenceSteps head.sequence n + 1)).length)
        { s with journal := s.journal.drop (sequenceSteps head.sequence n + 1) } := by
  have last : Config.lastSequence = 65535 := rfl
  have front : headSequence s.journal = some head.sequence := by rw [queue]; rfl
  rw [acknowledgeJournal, if_neg (by omega), front]

section
variable {s : State} (law : SequenceLaw s) (size : s.journal.length ≤ 256)
include law size

/-- The steps from the head's number to a record's are the records before it (R118). -/
theorem SequenceLaw.steps_eq {head r : JournalRecord} {q : List JournalRecord} {k : Nat}
    (journal : s.journal = head :: q) (place : s.journal[k]? = some r) :
    sequenceSteps head.sequence r.sequence = k := by
  obtain ⟨records, _, _, chain⟩ := law
  obtain ⟨inside, _⟩ := List.getElem?_eq_some_iff.1 place
  rw [journal] at chain records place
  refine sequenceSteps_eq_place (l := q.map JournalRecord.sequence) (List.isChain_append.1 chain).1 ?_ ?_ (by omega)
  · rw [← List.map_cons]
    exact List.forall_mem_map.2 records
  · rw [← List.map_cons, List.getElem?_map, place, Option.map_some]

/-- A record's number removes the records up to and including it (R127). -/
theorem acknowledgeJournal_of_record {gone rest : List JournalRecord} {r : JournalRecord}
    (journal : s.journal = gone ++ r :: rest) : acknowledgeJournal r.sequence s =
      accept (.acknowledged (gone.length + 1) (rest.head?.map JournalRecord.sequence) rest.length)
        { s with journal := rest } := by
  have place : s.journal[gone.length]? = some r := by simp [journal]
  obtain ⟨head, q, queue⟩ := List.exists_cons_of_ne_nil (List.ne_nil_of_mem (List.mem_of_getElem? place))
  have inside : ¬ s.journal.length ≤ gone.length := by simp [journal]
  have remaining : s.journal.drop (gone.length + 1) = rest := by simp [journal, List.drop_append]
  obtain ⟨least, most⟩ := law.1 r (List.mem_of_getElem? place)
  rw [acknowledgeJournal_of_cons queue least most, law.steps_eq size queue place, if_neg inside, remaining]
  rfl

/-- A number that no record has is refused (R127). -/
theorem acknowledgeJournal_badSequence {n : Nat} (least : 1 ≤ n) (most : n ≤ 65535)
    (absent : ∀ r ∈ s.journal, r.sequence ≠ n) : acknowledgeJournal n s = refuse .badSequence s := by
  cases queue : s.journal with
  | nil => rw [acknowledgeJournal_of_nil queue least most]
  | cons head q =>
    rw [acknowledgeJournal_of_cons queue least most]
    refine if_pos (Nat.not_lt.1 fun inside => ?_)
    have place := List.getElem?_eq_getElem inside
    have member := List.getElem_mem inside
    exact absent _ member (eq_of_sequenceSteps_eq (law.1 head (by simp [queue])) (law.1 _ member) ⟨least, most⟩
      (law.steps_eq size queue place))

end

/-- Settles O6: the steps from the head's number to the number sent are the place of its record. -/
theorem journalIsReadAndAcknowledged : Obligations.JournalIsReadAndAcknowledged := by
  intro s req n low law size
  refine ⟨request_answered low rfl, fun out => request_refused low (acknowledgeJournal_badRequest _ out),
    fun least most absent => request_refused low
      (acknowledgeJournal_badSequence (s := { s with window := none }) law size least most absent), ?_⟩
  rintro gone rest r journal rfl
  exact request_answered low (acknowledgeJournal_of_record (s := { s with window := none }) law size journal)

/-! ## ADJUST ACCOUNT (R123, R124) -/

/-! ### Its checks -/

theorem deltaInRange_iff {delta : Int} : deltaInRange delta = true ↔ -9999999 ≤ delta ∧ delta ≤ 9999999 := by
  unfold deltaInRange
  rw [Bool.and_eq_true]
  exact and_congr decide_eq_true_iff decide_eq_true_iff

theorem adjustableStatus_eq_false {st : AccountStatus} :
    adjustableStatus st = false ↔ st = .unloaded ∨ st = .free := by
  cases st <;> decide

theorem adjustAccount_badRequest (s : State) {account reason : Nat} {delta : Int}
    (out : 512 ≤ account ∨ delta < -9999999 ∨ 9999999 < delta ∨ 255 < reason) :
    adjustAccount account delta reason s = refuse .badRequest s := by
  unfold adjustAccount
  split
  next => rfl
  next n number =>
    have known : account < 512 := by
      by_contra far
      rw [accountNo_eq_none (Nat.not_lt.1 far)] at number
      cases number
    refine if_pos ?_
    rw [Bool.or_eq_true, Bool.not_eq_true', ← Bool.not_eq_true, deltaInRange_iff, decide_eq_true_iff]
    omega

/-- Past its ranges, ADJUST ACCOUNT checks the record's status and then the free slot (R123). -/
theorem adjustAccount_of_range (s : State) (n : AccountNo) {reason : Nat} {delta : Int} (least : -9999999 ≤ delta)
    (most : delta ≤ 9999999) (known : reason ≤ 255) : adjustAccount n.val delta reason s =
      if (s.accounts.get n).status = .unloaded ∨ (s.accounts.get n).status = .free then refuse .noAccount s
      else if 256 ≤ s.journal.length + s.reservations then refuse .journalFull s
      else applyAdjust n delta reason s := by
  have range : ¬ (!deltaInRange delta || decide (255 < reason)) = true := by
    simp [deltaInRange_iff.2 ⟨least, most⟩, known]
  have full : journalHasRoom s = false ↔ 256 ≤ s.journal.length + s.reservations := by
    rw [← Bool.not_eq_true, journalHasRoom_iff, SlotFree, Nat.not_lt]
  simp only [adjustAccount, accountNo_val, if_neg range, Bool.not_eq_true', adjustableStatus_eq_false, full]

/-! ### What it does -/

@[simp] theorem levelNoted_accounts (s : State) : (levelNoted s).accounts = s.accounts := by
  unfold levelNoted
  split <;> rfl

/-- The balance after an adjustment by `delta` (R124). -/
def adjustedBalance (s : State) (n : AccountNo) (delta : Int) : Int :=
  max (-9999999) (min 99999999 ((s.accounts.get n).balance + delta))

/-- The first parts of an adjustment: the balance, the changed flag and the ADJUST record (R124). -/
def adjustRecorded (s : State) (n : AccountNo) (delta : Int) (reason : Nat) : State :=
  let x := s.accounts.get n
  let b := adjustedBalance s n delta
  { s with
    accounts := s.accounts.set n { x with balance := b, changed := true }
    journal := s.journal ++ [⟨s.nextSeq, .adjust ⟨n, delta, b - x.balance, reason, b⟩⟩]
    nextSeq := sequenceAfter s.nextSeq }

/-- The state an adjustment leaves: after its record the retries, when the applied delta is above 0, and the level
notice (R124). -/
def adjustApplied (s : State) (n : AccountNo) (delta : Int) (reason : Nat) : State :=
  levelNoted (if 0 < adjustedBalance s n delta - (s.accounts.get n).balance
    then retryAccount (adjustRecorded s n delta reason) n else adjustRecorded s n delta reason)

/-- An adjustment changes the account in its balance and its changed flag, and in its holds total by the retries
(R85, R124). -/
theorem adjustApplied_account (s : State) (n : AccountNo) (delta : Int) (reason : Nat) :
    { (adjustApplied s n delta reason).accounts.get n with holdsTotal := 0 } =
      { s.accounts.get n with balance := adjustedBalance s n delta, changed := true, holdsTotal := 0 } := by
  have recorded : (adjustRecorded s n delta reason).accounts.get n =
      { s.accounts.get n with balance := adjustedBalance s n delta, changed := true } := Table.get_set_self ..
  rw [adjustApplied, levelNoted_accounts]
  split
  · rw [retryAccount_account, recorded]
  · rw [recorded]

theorem adjustApplied_available (s : State) (n : AccountNo) (delta : Int) (reason : Nat) :
    available ((adjustApplied s n delta reason).accounts.get n) =
      adjustedBalance s n delta + (s.accounts.get n).creditLimit
        - ((adjustApplied s n delta reason).accounts.get n).holdsTotal := by
  have same := adjustApplied_account s n delta reason
  have balance := congrArg Account.balance same
  have limit := congrArg Account.creditLimit same
  dsimp only at balance limit
  rw [available, balance, limit]

/-- An adjustment applied answers with its figures and the available amount after the retries (R124). -/
theorem applyAdjust_eq (s : State) (n : AccountNo) (delta : Int) (reason : Nat) :
    applyAdjust n delta reason s =
      accept (.adjusted s.nextSeq delta (adjustedBalance s n delta - (s.accounts.get n).balance)
          (adjustedBalance s n delta)
          (adjustedBalance s n delta + (s.accounts.get n).creditLimit
            - ((adjustApplied s n delta reason).accounts.get n).holdsTotal))
        (adjustApplied s n delta reason) := by
  rw [← adjustApplied_available, applyAdjust, noticeLevel_eq_levelNoted]
  rfl

/-- Settles O38: the checks in their order, then the adjustment with its retries and its figures. -/
theorem adjustAccountSaturates : Obligations.AdjustAccountSaturates := by
  intro s req account n delta reason low o
  refine ⟨fun out => request_refused low (adjustAccount_badRequest _ out), fun least most known => ?_⟩
  have checked := adjustAccount_of_range o n least most known
  dsimp only
  split
  next unknown => exact request_refused low (checked.trans (if_pos unknown))
  next loaded =>
    rw [if_neg loaded] at checked
    split
    next full => exact request_refused low (checked.trans (if_pos full))
    next room => exact request_answered low ((checked.trans (if_neg room)).trans (applyAdjust_eq o n delta reason))

end Sys2Proof.Machine

namespace Sys2Proof.Machine

/-! ## READ METERS and PRESET METERS (R135, R136) -/

/-- The states with an open job (R43). -/
theorem hasOpenJob_iff {st : StationState} : hasOpenJob st = true ↔
    st = .active ∨ st = .held ∨ st = .jammed ∨ st = .closing ∨ st = .detached := by
  cases st <;> decide

/-- A meter given takes its value, at most 99,999,999, and one absent keeps its own (R136). -/
theorem presetMeter_eq (old : Nat) (new : Option Nat) :
    presetMeter old new = (new.map (min 99999999)).getD old := by
  cases new with
  | none => rfl
  | some v => exact Nat.min_comm v 99999999

theorem readMeters_of_floor (s : State) (a : Addr) :
    readMeters (a.val + 1) s = accept (.metersRead a (s.meters.get a)) s := by
  rw [readMeters, floorAddr_val]

theorem readMeters_badRequest (s : State) {addr : Nat} (out : addr = 0 ∨ 16 < addr) :
    readMeters addr s = refuse .badRequest s := by
  rw [readMeters, floorAddr_eq_none.2 out]

theorem presetMeters_badRequest (s : State) {addr : Nat} (v : Meters (Option Nat)) (out : addr = 0 ∨ 16 < addr) :
    presetMeters addr v s = refuse .badRequest s := by
  rw [presetMeters, floorAddr_eq_none.2 out]

/-- PRESET METERS of a floor address: refused with an open job, else all ten meters are stored (R136). -/
theorem presetMeters_of_floor (s : State) (a : Addr) (v : Meters (Option Nat)) : presetMeters (a.val + 1) v s =
    if hasOpenJob (s.stations.get a).state then refuse .inUse s
    else accept (.metersPreset (presetAll (s.meters.get a) v))
      { s with meters := s.meters.set a (presetAll (s.meters.get a) v) } := by
  rw [presetMeters, floorAddr_val]
  rfl

/-- Settles O7: an address out of range, then a station with an open job, then the preset meter by meter. -/
theorem metersAreReadAndPreset : Obligations.MetersAreReadAndPreset := by
  intro s req addr a v low
  refine ⟨request_answered low (readMeters_of_floor _ a), fun out => ⟨request_refused low (readMeters_badRequest _ out),
    request_refused low (presetMeters_badRequest _ v out)⟩, ?_⟩
  have preset := presetMeters_of_floor { s with window := none } a v
  simp only [← hasOpenJob_iff, ← presetMeter_eq]
  split
  next opened => exact request_refused low (preset.trans (if_pos opened))
  next shut => exact request_answered low (preset.trans (if_neg shut))

end Sys2Proof.Machine

namespace Sys2Proof.Machine

set_option Elab.async false

/-! ## The law of the vend enable lines (R140)

The law reads a station's state and its line. A `Move` either leaves both as they are, or seats the station: writes its
record together with the line that the record's state wants. -/

theorem vendLaw_iff {s : State} :
    VendLaw s ↔ ∀ a : Addr, (s.presence.get a).line = lineHigh (s.stations.get a).state := by
  refine forall_congr' fun a => ?_
  cases (s.stations.get a).state <;> rfl

/-- A floor of cleared stations, all lines low, as a reset leaves it (R63, R140). -/
theorem vendLaw_of_fill {s : State} (stations : s.stations = Table.fill 16 Station.reset := by rfl)
    (presence : s.presence = Table.fill 16 PresenceRecord.reset := by rfl) : VendLaw s := by
  intro a
  rw [stations, presence, Table.get_fill, Table.get_fill]
  rfl

section
variable {s : State} (h : VendLaw s)
include h

theorem VendLaw.frame {t : State} (stations : t.stations = s.stations := by rfl)
    (presence : t.presence = s.presence := by rfl) : VendLaw t := by
  intro a
  rw [stations, presence]
  exact h a

/-- One station's record and presence record written, with the line that the state wants. -/
theorem VendLaw.put {t : State} {a : Addr} {r : Station} {p : PresenceRecord}
    (stations : t.stations = s.stations.set a r) (presence : t.presence = s.presence.set a p)
    (driven : p.line = lineHigh r.state) : VendLaw t := by
  refine vendLaw_iff.2 fun b => ?_
  rw [stations, presence, Table.get_set, Table.get_set]
  split
  · exact driven
  · exact vendLaw_iff.1 h b

theorem VendLaw.seat (a : Addr) (r : Station) : VendLaw (seat s a r) := h.put rfl rfl (lineHigh_eq r.state).symm

theorem VendLaw.enter (a : Addr) (st : StationState) : VendLaw (enter s a st) := by
  rw [enter_eq_seat]
  exact h.seat a _

/-- A station record written with the state as it was. -/
theorem VendLaw.setStation (a : Addr) (r : Station) (same : r.state = (s.stations.get a).state := by rfl) :
    VendLaw (setStation s a r) :=
  h.put (p := s.presence.get a) rfl (Table.set_get ..).symm (same ▸ vendLaw_iff.1 h a)

/-- A presence record written with the line as it was. -/
theorem VendLaw.setPresence (a : Addr) (p : PresenceRecord) (same : p.line = (s.presence.get a).line := by rfl) :
    VendLaw (setPresence s a p) :=
  h.put (r := s.stations.get a) (Table.set_get ..).symm rfl (same.trans (vendLaw_iff.1 h a))

/-- A card sent online: the station waits in AUTHORIZING with its line low (R29). -/
theorem VendLaw.goOnline (a : Addr) (card : AuthCard) : VendLaw (goOnline s a card) := by
  have seated : VendLaw (waiting s a card) := h.seat a _
  rw [goOnline_eq]
  split
  · exact seated.frame
  · exact seated.frame

/-- An authorization ended: the station is at rest with its line low (R32). -/
theorem VendLaw.endAuthorization (a : Addr) : VendLaw (endAuthorization s a) := by
  obtain ⟨_, _, _, released⟩ := releaseAuthorization_eq s a
  have given : VendLaw (releaseAuthorization s a) := by
    rw [released]
    exact h.frame
  exact (given.setStation a _).enter a _

/-- A CARD RESULT placed: the line stays as it is (R155). -/
theorem VendLaw.placeCardResult (a : Addr) (x : CardResult) : VendLaw (placeCardResult s a x) := by
  obtain ⟨_, forgotten⟩ := forgetSent_eq s a .cardResult
  have kept : VendLaw (forgetSent s a .cardResult) := by
    rw [forgotten]
    exact h.frame
  exact kept.setPresence a _

theorem VendLaw.declineToSlot (a : Addr) (why : DeclineReason) : VendLaw (declineToSlot s a why) :=
  (h.endAuthorization a).placeCardResult a _

/-- Every authorization ended, station by station (R142). -/
theorem VendLaw.endAuthorizations : VendLaw (endAuthorizations s) := by
  have each (l : List Addr) {t : State} (ht : VendLaw t) :
      VendLaw (l.foldl (fun s a => Machine.declineToSlot s a .mode) t) := by
    induction l generalizing t with
    | nil => exact ht
    | cons a l ih => exact ih (ht.declineToSlot a .mode)
  exact each _ h.frame

/-- A grant: the station is ACTIVE with its line high (R27). -/
theorem VendLaw.openJob (a : Addr) (n : AccountNo) (guest : Bool) (ceiling : Option Nat) (hold : Nat) :
    VendLaw (openJob s a n guest ceiling hold) := by
  obtain ⟨_, opened⟩ := openJob_eq s a n guest ceiling hold
  rw [opened]
  exact h.put rfl rfl rfl

/-- A job taken off its station, which takes its rest state with the line low (R57). -/
theorem VendLaw.takeOff (a : Addr) (reason : EndReason) (j : Job) : VendLaw (takeOff s a reason j) := by
  rw [takeOff_eq]
  exact h.put rfl rfl (lineHigh_of_atRest (atRest_restState s a)).symm

/-- An extension changes the hold of the job and leaves the station in its state (R80). -/
theorem VendLaw.extend (a : Addr) (j : Job) : VendLaw (extend s a j) := by
  have charged : VendLaw (setAccount s j.account { s.accounts.get j.account with
      holdsTotal := (s.accounts.get j.account).holdsTotal + (offer s j).toNat }) := h.frame
  exact charged.setStation a _

end

theorem VendLaw.move {s t : State} (m : Move s t) (h : VendLaw s) : VendLaw t := by
  cases m with
  | links e => exact h.frame e.stations e.presence
  | reset e => exact vendLaw_of_fill e.stations e.presence
  | presence a p line => exact h.setPresence a p line
  | station a r state => exact h.setStation a r state
  | enter a st => exact h.enter a st
  | online a card => exact h.goOnline a card
  | ended a => exact h.endAuthorization a
  | endedAll => exact h.endAuthorizations
  | granted a n ceiling hold => exact h.openJob a n false ceiling hold
  | guestGranted a n amount plan rights tag =>
    have filled : VendLaw (setAccount s n (guestAccount amount plan rights tag)) := h.frame
    exact filled.openJob a n true none _
  | settled a reason j => exact h.takeOff a reason j
  | extended a j => exact h.extend a j
  | floorDown => exact vendLaw_of_fill
  | _ => exact h.frame

/-- Settles O51: every move keeps the law of the vend enable lines, and a step is made of moves. -/
theorem stepKeepsTheVendLaw : Obligations.StepKeepsTheVendLaw :=
  fun _ _ law h => step_keeps (fun _ _ => VendLaw.move) h law

end Sys2Proof.Machine

namespace Sys2Proof

set_option Elab.async false

/-! ## The CRC tells one damaged byte (R146, R157, R167) -/

/-! ### Numbers as bytes (R166) -/

@[simp] theorem toBE_length (w n : Nat) : (toBE w n).length = w := by
  induction w with
  | zero => rfl
  | succ w ih => rw [toBE, List.length_cons, ih]

/-- Reading on through the bytes of a number, after the bytes before them (R166). -/
theorem foldl_toBE (w n m : Nat) :
    (toBE w n).foldl (fun n b => n * 256 + b.toNat) m = m * 256 ^ w + n % 256 ^ w := by
  induction w generalizing m with
  | zero => simp [toBE, Nat.mod_one]
  | succ w ih =>
    rw [toBE, List.foldl_cons, ih, BitVec.toNat_ofNat, Nat.pow_succ 256 w, Nat.mod_mul (b := 256)]
    ring

theorem ofBE_toBE {w n : Nat} (fit : n < 256 ^ w) : ofBE (toBE w n) = n := by
  rw [ofBE, foldl_toBE, Nat.mod_eq_of_lt fit, Nat.zero_mul, Nat.zero_add]

/-! ### The CRC byte by byte -/

/-- The low bit after one bit of the CRC is the high bit before it: the polynomial has a low term. -/
theorem crcBit_lsb (r : BitVec 16) : (crcBit r).getLsbD 0 = r.msb := by
  unfold crcBit
  cases r.msb <;> simp

theorem crcBit_injective : Function.Injective crcBit := by
  intro x y same
  have high : x.msb = y.msb := by rw [← crcBit_lsb x, ← crcBit_lsb y, same]
  have shifted : x <<< 1 = y <<< 1 := by
    unfold crcBit at same
    rw [high] at same
    split at same
    · exact (BitVec.xor_left_inj _).1 same
    · exact same
  rw [BitVec.msb_eq_decide, BitVec.msb_eq_decide, decide_eq_decide] at high
  have lowered := congrArg BitVec.toNat shifted
  simp only [BitVec.toNat_shiftLeft, Nat.shiftLeft_eq] at lowered
  apply BitVec.eq_of_toNat_eq
  omega

theorem crcByte_injective_left (b : Byte) : Function.Injective (crcByte · b) := by
  intro x y same
  simpa [crcByte, crcBit_injective.eq_iff] using same

theorem crcByte_injective_right (r : BitVec 16) : Function.Injective (crcByte r) := by
  intro b c same
  have shifted : b.setWidth 16 <<< 8 = c.setWidth 16 <<< 8 := by
    simpa [crcByte, crcBit_injective.eq_iff] using same
  have lowered := congrArg BitVec.toNat shifted
  simp only [BitVec.toNat_shiftLeft, BitVec.toNat_setWidth, Nat.shiftLeft_eq] at lowered
  apply BitVec.eq_of_toNat_eq
  omega

theorem foldl_crcByte_injective (bs : List Byte) : Function.Injective (bs.foldl crcByte) := by
  induction bs with
  | nil => exact fun _ _ same => same
  | cons b bs ih => exact fun x y same => crcByte_injective_left b (ih same)

/-- One byte replaced by another changes the CRC (R146, R167). -/
theorem crc16_set_ne {bs : List Byte} {k : Nat} {b : Byte} (inside : k < bs.length) (other : b ≠ bs[k]) :
    crc16 (bs.set k b) ≠ crc16 bs := by
  intro same
  have parts : crc16 bs = crc16 (bs.take k ++ bs[k] :: bs.drop (k + 1)) := by
    rw [← List.drop_eq_getElem_cons inside, List.take_append_drop]
  rw [parts, List.set_eq_take_append_cons_drop, if_pos inside] at same
  simp only [crc16, List.foldl_append, List.foldl_cons] at same
  exact other (crcByte_injective_right _ (foldl_crcByte_injective _ same))

theorem crcBytes_inj {x y : List Byte} : crcBytes x = crcBytes y ↔ crc16 x = crc16 y := by
  refine ⟨fun same => BitVec.eq_of_toNat_eq ?_, congrArg fun r : BitVec 16 => toBE 2 r.toNat⟩
  rw [← ofBE_toBE (w := 2) (crc16 x).isLt, ← ofBE_toBE (w := 2) (crc16 y).isLt]
  exact congrArg ofBE same

/-! ### Frames opened -/

theorem openFrame_eq_some {bs fields : List Byte} : openFrame bs = some fields ↔ 2 ≤ bs.length
    ∧ crcBytes (bs.take (bs.length - 2)) = bs.drop (bs.length - 2) ∧ bs.take (bs.length - 2) = fields := by
  rw [openFrame, Option.ite_none_right_eq_some, Option.some_inj, and_assoc]

/-- A damaged byte under the CRC changes what the CRC should be, one in the CRC what it is (R146, R167). -/
theorem openFrame_set {bs fields : List Byte} {k : Nat} {b : Byte} (opened : openFrame bs = some fields)
    (inside : k < bs.length) (other : b ≠ bs[k]) : openFrame (bs.set k b) = none := by
  obtain ⟨_, checks, _⟩ := openFrame_eq_some.1 opened
  refine Option.eq_none_iff_forall_ne_some.2 fun damaged reopened => ?_
  obtain ⟨_, rechecks, _⟩ := openFrame_eq_some.1 reopened
  rw [List.length_set, List.take_set] at rechecks
  by_cases covered : k < bs.length - 2
  · rw [List.drop_set_of_lt covered, ← checks, crcBytes_inj] at rechecks
    have within : k < (bs.take (bs.length - 2)).length := by
      rw [List.length_take]
      omega
    exact crc16_set_ne within (by rwa [List.getElem_take]) rechecks
  · rw [List.set_eq_of_length_le (by rw [List.length_take]; omega), checks, List.drop_set, if_neg covered] at rechecks
    have changed := congrArg (·[k - (bs.length - 2)]?) rechecks
    have place : bs.length - 2 + (k - (bs.length - 2)) = k := by omega
    rw [List.getElem?_set_self (by rw [List.length_drop]; omega), List.getElem?_drop, place,
      List.getElem?_eq_getElem inside, Option.some_inj] at changed
    exact other changed.symm

/-- Settles O60: with one byte damaged the CRC no longer checks, on either link. -/
theorem damagedFramesAreNotTaken : Obligations.DamagedFramesAreNotTaken := by
  intro bs k b fields opened other
  have shut : openFrame (bs.set k b) = none := openFrame_set opened k.isLt other
  exact ⟨by rw [receiveOffice, shut], by simp only [receiveFloor, shut]⟩

end Sys2Proof

namespace Sys2Proof

set_option Elab.async false

/-! ## Frames written are read back (R166 to R171) -/

/-! ### Fields -/

theorem fits_iff {w n : Nat} : fits w n = true ↔ n < 256 ^ w := decide_eq_true_iff

/-- A field is read from the bytes of its number, and what follows is left (R166). -/
theorem field_toBE {w n : Nat} (fit : fits w n = true) (bs : List Byte) : field w (toBE w n ++ bs) = some (n, bs) := by
  have whole : ¬ (toBE w n ++ bs).length < w := by simp
  rw [field, if_neg whole, List.take_left' (toBE_length w n), List.drop_left' (toBE_length w n),
    ofBE_toBE (fits_iff.1 fit)]

theorem field_toBE_last {w n : Nat} (fit : fits w n = true) : field w (toBE w n) = some (n, []) := by
  rw [← List.append_nil (toBE w n), field_toBE fit]

theorem signedField_toSigned {x : Int} (fit : fitsSigned x = true) (bs : List Byte) :
    signedField (toSigned x ++ bs) = some (x, bs) := by
  have range : -2147483648 ≤ x ∧ x < 2147483648 := by simpa [fitsSigned] using fit
  have word : fits 4 (x % 4294967296).toNat = true := fits_iff.2 (by omega)
  have value : ofSigned (x % 4294967296).toNat = x := by
    unfold ofSigned
    split <;> omega
  rw [signedField, toSigned, field_toBE word]
  simp [value]

theorem optField_optBytes {w : Nat} {x : Option Nat} (fit : fitsOpt w x = true) (bs : List Byte) :
    optField w (optBytes w x ++ bs) = some (x, bs) := by
  cases x with
  | none => rfl
  | some n => simp [optField, optBytes, field_toBE fit]

theorem optField_optBytes_last {w : Nat} {x : Option Nat} (fit : fitsOpt w x = true) :
    optField w (optBytes w x) = some (x, []) := by
  rw [← List.append_nil (optBytes w x), optField_optBytes fit]

theorem optByteField_optByteBytes (x : Option Byte) : optByteField (optByteBytes x) = some (x, []) := by
  cases x <;> rfl

/-! ### Records (R171) -/

/-- One field read, the reader goes on with what follows it. -/
theorem bind_of_read {α β : Type} {read : Option α} {x : α} {next : α → Option β} {y : Option β} (first : read = some x)
    (rest : next x = y) : (read >>= next) = y := by
  rw [first, ← rest]
  rfl

theorem readAccountRecord_bytes {p : AccountPayload} (fit : p.wf = true) : readAccountRecord p.bytes = some p := by
  simp only [AccountPayload.wf, Bool.and_eq_true] at fit
  obtain ⟨⟨⟨⟨⟨number, status⟩, balance⟩, limit⟩, plan⟩, discount⟩ := fit
  simp only [AccountPayload.bytes, List.append_assoc]
  exact bind_of_read (field_toBE number _) <| bind_of_read (field_toBE status _) <|
    bind_of_read (signedField_toSigned balance _) <| bind_of_read (field_toBE limit _) <|
    bind_of_read (field_toBE plan _) <| bind_of_read (field_toBE discount _) rfl

theorem readCardRecord_bytes {p : CardPayload} (fit : p.wf = true) : readCardRecord p.bytes = some p := by
  simp only [CardPayload.wf, Bool.and_eq_true] at fit
  obtain ⟨⟨⟨card, account⟩, ceiling⟩, gated⟩ := fit
  simp [readCardRecord, CardPayload.bytes, field_toBE, field_toBE_last, finish, *]

theorem readRates_bytes {r : TierRates} (fit : r.wf = true) (bs : List Byte) :
    readRates (r.bytes ++ bs) = some (r, bs) := by
  simp only [TierRates.wf, Bool.and_eq_true] at fit
  obtain ⟨⟨⟨one, two⟩, three⟩, four⟩ := fit
  simp [readRates, TierRates.bytes, field_toBE, *]


theorem readPlanRecord_bytes {p : PlanPayload} (fit : p.wf = true) : readPlanRecord p.bytes = some p := by
  simp only [PlanPayload.wf, PerClass.all, Bool.and_eq_true] at fit
  obtain ⟨⟨⟨⟨⟨⟨⟨number, loaded⟩, b1⟩, b2⟩, b3⟩, ⟨⟨⟨⟨sMono, sColour⟩, sFull⟩, lMono⟩, lColour⟩, lFull⟩, m⟩, h⟩ := fit
  simp only [PlanPayload.bytes, PerClass.list, List.flatMap_cons, List.flatMap_nil, List.append_assoc, List.nil_append]
  exact bind_of_read (field_toBE number _) <| bind_of_read (field_toBE loaded _) <| bind_of_read (field_toBE b1 _) <|
    bind_of_read (field_toBE b2 _) <| bind_of_read (field_toBE b3 _) <| bind_of_read (readRates_bytes sMono _) <|
    bind_of_read (readRates_bytes sColour _) <| bind_of_read (readRates_bytes sFull _) <|
    bind_of_read (readRates_bytes lMono _) <| bind_of_read (readRates_bytes lColour _) <|
    bind_of_read (readRates_bytes lFull _) <| bind_of_read (field_toBE m _) <| bind_of_read (field_toBE_last h) rfl

theorem readTimers_bytes {v : PerTimer (Option Nat)} (fit : v.all (fitsOpt 2) = true) :
    readTimers (timerBytes v) = some v := by
  simp only [PerTimer.all, Bool.and_eq_true] at fit
  obtain ⟨⟨⟨⟨⟨authorization, idle⟩, holdWait⟩, jam⟩, drain⟩, grace⟩ := fit
  simp only [timerBytes, List.append_assoc]
  exact bind_of_read (optField_optBytes authorization _) <| bind_of_read (optField_optBytes idle _) <|
    bind_of_read (optField_optBytes holdWait _) <| bind_of_read (optField_optBytes jam _) <|
    bind_of_read (optField_optBytes drain _) <| bind_of_read (optField_optBytes_last grace) rfl

theorem readMeterValues_bytes {v : Meters (Option Nat)} (fit : v.all (fitsOpt 4) = true) :
    readMeterValues (meterBytes v) = some v := by
  simp only [Meters.all, PerClass.all, Bool.and_eq_true] at fit
  obtain ⟨⟨⟨⟨⟨⟨⟨⟨⟨sMono, sColour⟩, sFull⟩, lMono⟩, lColour⟩, lFull⟩, service⟩, duplicate⟩, writtenOff⟩, jams⟩ := fit
  simp only [meterBytes, PerClass.list, List.flatMap_cons, List.flatMap_nil, List.append_assoc, List.nil_append]
  exact bind_of_read (optField_optBytes sMono _) <| bind_of_read (optField_optBytes sColour _) <|
    bind_of_read (optField_optBytes sFull _) <| bind_of_read (optField_optBytes lMono _) <|
    bind_of_read (optField_optBytes lColour _) <| bind_of_read (optField_optBytes lFull _) <|
    bind_of_read (optField_optBytes service _) <| bind_of_read (optField_optBytes duplicate _) <|
    bind_of_read (optField_optBytes writtenOff _) <| bind_of_read (optField_optBytes_last jams) rfl

theorem readPanel_bytes {p : PanelPayload} (fit : p.wf = true) : readPanel p.bytes = some p := by
  simp only [PanelPayload.wf, Bool.and_eq_true, beq_iff_eq, fits_iff] at fit
  obtain ⟨⟨time, one⟩, two⟩ := fit
  have shown : (BitVec.ofNat 8 p.time).toNat = p.time := by rw [BitVec.toNat_ofNat]; omega
  simp [readPanel, PanelPayload.bytes, toBE, one, two, shown]

/-! ### Records told by their lengths (R162, R171) -/

theorem length_of_field {w n : Nat} {bs r : List Byte} (read : field w bs = some (n, r)) :
    bs.length = w + r.length := by
  unfold field at read
  split at read
  next => cases read
  next whole =>
    cases read
    rw [List.length_drop]
    omega

theorem length_of_byteField {b : Byte} {bs r : List Byte} (read : byteField bs = some (b, r)) :
    bs.length = 1 + r.length := by
  cases bs <;> cases read
  exact Nat.add_comm ..

theorem length_of_signedField {x : Int} {bs r : List Byte} (read : signedField bs = some (x, r)) :
    bs.length = 4 + r.length := by
  simp only [signedField, Option.bind_eq_bind, Option.bind_eq_some_iff, Prod.exists] at read
  obtain ⟨n, r', first, last⟩ := read
  cases last
  exact length_of_field first

theorem length_of_finish {α : Type} {x y : α} {bs : List Byte} (read : finish x bs = some y) : bs.length = 0 := by
  cases bs with
  | nil => rfl
  | cons b bs => cases read

theorem length_of_readRates {x : TierRates} {bs r : List Byte} (read : readRates bs = some (x, r)) :
    bs.length = 8 + r.length := by
  simp only [readRates, Option.bind_eq_bind, Option.bind_eq_some_iff, Prod.exists] at read
  obtain ⟨_, _, one, _, _, two, _, _, three, _, _, four, last⟩ := read
  cases last
  rw [length_of_field one, length_of_field two, length_of_field three, length_of_field four]
  omega

/-- A reader goes on with what its first field leaves. -/
theorem length_of_bind {α β : Type} {read : Option (α × List Byte)} {next : α × List Byte → Option β} {y : β}
    {bs : List Byte} {n m : Nat} (h : (read >>= next) = some y)
    (first : ∀ {x r}, read = some (x, r) → bs.length = n + r.length)
    (rest : ∀ {x r}, next (x, r) = some y → r.length = m) : bs.length = n + m := by
  obtain ⟨⟨x, r⟩, taken, left⟩ := Option.bind_eq_some_iff.1 h
  rw [first taken, rest left]

theorem length_of_readAccountRecord {p : AccountPayload} {bs : List Byte} (read : readAccountRecord bs = some p) :
    bs.length = 15 :=
  (length_of_bind read length_of_field fun h => length_of_bind h length_of_field fun h =>
    length_of_bind h length_of_signedField fun h => length_of_bind h length_of_field fun h =>
    length_of_bind h length_of_field fun h => length_of_bind h length_of_field fun h =>
    length_of_bind h length_of_byteField length_of_finish).trans rfl

theorem length_of_readCardRecord {p : CardPayload} {bs : List Byte} (read : readCardRecord bs = some p) :
    bs.length = 14 :=
  (length_of_bind read length_of_field fun h => length_of_bind h length_of_field fun h =>
    length_of_bind h length_of_field fun h => length_of_bind h length_of_field length_of_finish).trans rfl

theorem length_of_readPlanRecord {p : PlanPayload} {bs : List Byte} (read : readPlanRecord bs = some p) :
    bs.length = 61 :=
  (length_of_bind read length_of_field fun h => length_of_bind h length_of_field fun h =>
    length_of_bind h length_of_field fun h => length_of_bind h length_of_field fun h =>
    length_of_bind h length_of_field fun h => length_of_bind h length_of_readRates fun h =>
    length_of_bind h length_of_readRates fun h => length_of_bind h length_of_readRates fun h =>
    length_of_bind h length_of_readRates fun h => length_of_bind h length_of_readRates fun h =>
    length_of_bind h length_of_readRates fun h => length_of_bind h length_of_field fun h =>
    length_of_bind h length_of_field length_of_finish).trans rfl

theorem length_of_record {r : WindowRecord} (fit : r.wf = true) : r.bytes.length ≤ 1022 := by
  cases r with
  | account p => simp [WindowRecord.bytes, AccountPayload.bytes, toSigned]
  | card p => simp [WindowRecord.bytes, CardPayload.bytes]
  | plan p => simp [WindowRecord.bytes, PlanPayload.bytes, PerClass.list, TierRates.bytes]
  | other body => exact of_decide_eq_true (Bool.and_eq_true_iff.1 fit).2
  | short body => exact (of_decide_eq_true fit).trans (by decide)

/-- A record is told by its length, one of none of the three lengths is none (R162). -/
theorem readWindowRecord_bytes {r : WindowRecord} (fit : r.wf = true) (indexed : r.hasIndex = true) :
    readWindowRecord r.bytes = r := by
  have noAccount {bs : List Byte} (other : bs.length ≠ 15) : readAccountRecord bs = none :=
    Option.eq_none_iff_forall_ne_some.2 fun _ read => other (length_of_readAccountRecord read)
  have noCard {bs : List Byte} (other : bs.length ≠ 14) : readCardRecord bs = none :=
    Option.eq_none_iff_forall_ne_some.2 fun _ read => other (length_of_readCardRecord read)
  have noPlan {bs : List Byte} (other : bs.length ≠ 61) : readPlanRecord bs = none :=
    Option.eq_none_iff_forall_ne_some.2 fun _ read => other (length_of_readPlanRecord read)
  cases r with
  | account p => simp only [readWindowRecord, WindowRecord.bytes, readAccountRecord_bytes fit]
  | card p =>
    have length : p.bytes.length = 14 := by simp [CardPayload.bytes]
    simp only [readWindowRecord, WindowRecord.bytes, noAccount (bs := p.bytes) (by omega), readCardRecord_bytes fit]
  | plan p =>
    have length : p.bytes.length = 61 := by simp [PlanPayload.bytes, PerClass.list, TierRates.bytes]
    simp only [readWindowRecord, WindowRecord.bytes, noAccount (bs := p.bytes) (by omega),
      noCard (bs := p.bytes) (by omega), readPlanRecord_bytes fit]
  | other body =>
    simp only [WindowRecord.wf, recordLengths, Bool.and_eq_true, Bool.not_eq_true', List.contains_eq_mem,
      decide_eq_false_iff_not, List.mem_cons, List.not_mem_nil, or_false, not_or] at fit
    obtain ⟨⟨account, card, plan⟩, _⟩ := fit
    simp only [readWindowRecord, WindowRecord.bytes, noAccount account, noCard card, noPlan plan]
  | short body => cases indexed

/-! ### Office requests (R168, R169) -/

theorem readWindowData_bytes (req : Nat) {index : Nat} {r : WindowRecord} (fitIndex : fits 2 index = true)
    (fit : r.wf = true) (whole : (r.hasIndex || index == 0) = true) :
    readWindowData req (windowBytes index r) = .windowData req index r := by
  cases indexed : r.hasIndex with
  | true =>
    simp only [readWindowData, windowBytes, indexed, if_true, field_toBE fitIndex, readWindowRecord_bytes fit indexed]
  | false =>
    cases r with
    | account p | card p | plan p | other body => cases indexed
    | short body =>
      have zero : index = 0 := by simpa [indexed] using whole
      have little : body.length < 2 := Nat.lt_succ_of_le (of_decide_eq_true fit)
      have unread : field 2 body = none := if_pos little
      simp [readWindowData, windowBytes, indexed, WindowRecord.bytes, unread, zero]

/-- A request to destination 0 is read back from its kind and its body (R169). -/
theorem readRequest_of_parts {i : Instr} {kind : OfficeKind} {req : Nat} {body : List Byte} (fit : i.wf = true)
    (parts : officeParts i = some (0, kind, req, body)) : readRequest kind req body = some i := by
  cases i
  case panelText =>
    cases parts
    simp [Instr.wf, isPanelDest, isFloorAddr] at fit
  all_goals cases parts
  case identify | readStatus | changedAccounts | readJournal | rescanFloor | pause | unpause => rfl
  all_goals simp only [Instr.wf, Bool.and_eq_true] at fit
  case readStation | readAccount | removeCard | readCard | readPlan | endJob | acknowledgeJournal | readMeters | setMode
      | setFreeVend =>
    exact bind_of_read (field_toBE_last fit.2) rfl
  case setAccountStatus | setStationEnable =>
    obtain ⟨⟨_, first⟩, second⟩ := fit
    exact bind_of_read (field_toBE first _) <| bind_of_read (field_toBE_last second) rfl
  case resetFull | resetFloor => exact bind_of_read (field_toBE_last rfl) rfl
  case writeAccount => rw [readRequest, readAccountRecord_bytes fit.2, Option.map_some]
  case writeCard => rw [readRequest, readCardRecord_bytes fit.2, Option.map_some]
  case writePlan => rw [readRequest, readPlanRecord_bytes fit.2, Option.map_some]
  case setTimers => rw [readRequest, readTimers_bytes fit.2, Option.map_some]
  case presetMeters =>
    obtain ⟨⟨_, addr⟩, values⟩ := fit
    exact bind_of_read (field_toBE addr _) (Option.map_eq_some_iff.2 ⟨_, readMeterValues_bytes values, rfl⟩)
  case setAccountLimits =>
    obtain ⟨⟨⟨⟨_, account⟩, limit⟩, plan⟩, discount⟩ := fit
    simp only [List.append_assoc]
    exact bind_of_read (field_toBE account _) <| bind_of_read (optField_optBytes limit _) <|
      bind_of_read (optField_optBytes plan _) <| bind_of_read (optField_optBytes discount _) <|
      bind_of_read (optByteField_optByteBytes _) rfl
  case adjustAccount =>
    obtain ⟨⟨⟨_, account⟩, delta⟩, reason⟩ := fit
    simp only [List.append_assoc]
    exact bind_of_read (field_toBE account _) <| bind_of_read (signedField_toSigned delta _) <|
      bind_of_read (field_toBE_last reason) rfl
  case approveAccount =>
    obtain ⟨⟨⟨_, tag⟩, account⟩, hold⟩ := fit
    simp only [List.append_assoc]
    exact bind_of_read (field_toBE tag _) <| bind_of_read (field_toBE rfl _) <| bind_of_read (field_toBE account _) <|
      bind_of_read (optField_optBytes_last hold) rfl
  case approveGuest =>
    obtain ⟨⟨⟨_, tag⟩, amount⟩, plan⟩ := fit
    simp only [List.append_assoc]
    exact bind_of_read (field_toBE tag _) <| bind_of_read (field_toBE rfl _) <| bind_of_read (field_toBE amount _) <|
      bind_of_read (field_toBE plan _) rfl
  case decline =>
    obtain ⟨⟨_, tag⟩, reason⟩ := fit
    simp only [List.append_assoc]
    exact bind_of_read (field_toBE tag _) <| bind_of_read (field_toBE rfl _) <|
      bind_of_read (field_toBE_last reason) rfl
  case openWindow =>
    obtain ⟨⟨⟨_, table⟩, start⟩, count⟩ := fit
    simp only [List.append_assoc]
    exact bind_of_read (field_toBE table _) <| bind_of_read (field_toBE start _) <|
      bind_of_read (field_toBE_last count) rfl
  case windowData =>
    obtain ⟨⟨⟨_, index⟩, record⟩, whole⟩ := fit
    exact congrArg some (readWindowData_bytes _ index record whole)

theorem optBytes_length_le (w : Nat) (x : Option Nat) : (optBytes w x).length ≤ w + 1 := by
  cases x <;> simp [optBytes]

theorem length_flatMap_optBytes_le (w : Nat) (l : List (Option Nat)) :
    (l.flatMap (optBytes w)).length ≤ l.length * (w + 1) := by
  induction l with
  | nil => simp
  | cons x l ih =>
    have first := optBytes_length_le w x
    rw [List.flatMap_cons, List.length_append, List.length_cons, Nat.add_one_mul]
    omega

/-- No request has a body above 1,024 bytes (R168). -/
theorem officeParts_length {i : Instr} {dest : Nat} {kind : OfficeKind} {req : Nat} {body : List Byte}
    (fit : i.wf = true) (parts : officeParts i = some (dest, kind, req, body)) : body.length ≤ 1024 := by
  cases i
  case windowData q index r =>
    cases parts
    simp only [Instr.wf, Bool.and_eq_true] at fit
    obtain ⟨⟨_, record⟩, _⟩ := fit
    have indexed : (if r.hasIndex = true then toBE 2 index else []).length ≤ 2 := by split <;> simp
    have recorded := length_of_record record
    rw [windowBytes, List.length_append]
    omega
  case panelText q d text =>
    cases parts
    simp only [Instr.wf, PanelPayload.wf, Bool.and_eq_true, beq_iff_eq] at fit
    obtain ⟨_, ⟨_, one⟩, two⟩ := fit
    simp [PanelPayload.bytes, one, two]
  case setAccountLimits q account limit plan discount rights =>
    cases parts
    have limited := optBytes_length_le 4 limit
    have planned := optBytes_length_le 1 plan
    have discounted := optBytes_length_le 2 discount
    have righted : (optByteBytes rights).length ≤ 2 := by cases rights <;> simp [optByteBytes]
    simp only [List.length_append, toBE_length]
    omega
  case approveAccount q tag account hold =>
    cases parts
    have held := optBytes_length_le 3 hold
    simp only [List.length_append, toBE_length]
    omega
  case setTimers q v =>
    cases parts
    have few := length_flatMap_optBytes_le 2 [v.authorization, v.idle, v.holdWait, v.jam, v.drain, v.reconnectGrace]
    simp only [List.flatMap_cons, List.flatMap_nil, List.append_nil, ← List.append_assoc] at few
    exact few.trans (by simp)
  case presetMeters q addr v =>
    cases parts
    have few := length_flatMap_optBytes_le 4 (v.classes.list ++ [v.service, v.duplicate, v.writtenOff, v.jams])
    simp only [List.flatMap_append, List.flatMap_cons, List.flatMap_nil, List.append_nil, ← List.append_assoc] at few
    rw [List.length_append, toBE_length]
    exact (Nat.add_le_add_left few 1).trans (by simp [PerClass.list])
  all_goals cases parts
  all_goals simp [AccountPayload.bytes, CardPayload.bytes, PlanPayload.bytes, PerClass.list, TierRates.bytes, toSigned]

/-! ### Frames (R157, R167, R168) -/

theorem openFrame_sealFrame (bs : List Byte) : openFrame (sealFrame bs) = some bs := by
  have length : (sealFrame bs).length - 2 = bs.length := by simp [sealFrame, crcBytes]
  rw [openFrame_eq_some, length, sealFrame, List.take_left, List.drop_left]
  exact ⟨by simp [crcBytes], rfl, rfl⟩

theorem toNat_of_fits {n : Nat} (fit : fits 1 n = true) : (BitVec.ofNat 8 n).toNat = n :=
  Nat.mod_eq_of_lt (fits_iff.1 fit)

/-- A frame with fields that fit is received as what its body reads as (R157, R168). -/
theorem receiveOffice_officeFrameBytes {dest kind req : Nat} {body : List Byte} (fitDest : fits 1 dest = true)
    (fitKind : fits 1 kind = true) (fitReq : fits 1 req = true) (short : body.length ≤ 1024) :
    receiveOffice (officeFrameBytes dest kind req body) = readOfficeBody dest kind req body := by
  have length : (BitVec.ofNat 8 (body.length / 256)).toNat * 256 + (BitVec.ofNat 8 body.length).toNat
      = body.length := by
    rw [BitVec.toNat_ofNat, BitVec.toNat_ofNat]
    omega
  have opened : openFrame (officeFrameBytes dest kind req body) = some (.ofNat 8 dest :: .ofNat 8 kind
      :: .ofNat 8 (body.length / 256) :: .ofNat 8 body.length :: .ofNat 8 req :: body) := by
    simp [officeFrameBytes, openFrame_sealFrame, toBE]
  simp only [receiveOffice, opened, length, if_true, toNat_of_fits fitDest, toNat_of_fits fitKind, toNat_of_fits fitReq]

theorem ofCode_code (k : OfficeKind) : OfficeKind.ofCode k.code = some k := by cases k <;> rfl

theorem fits_code (k : OfficeKind) : fits 1 k.code = true := by cases k <;> rfl

/-- The destination of a request is 0, but for panel text (R157, R164). -/
theorem officeParts_dest {i : Instr} {dest : Nat} {kind : OfficeKind} {req : Nat} {body : List Byte}
    (parts : officeParts i = some (dest, kind, req, body)) :
    dest = 0 ∨ ∃ text, i = .panelText req dest text ∧ kind = .panelText ∧ body = text.bytes := by
  cases i
  case panelText =>
    cases parts
    exact .inr ⟨_, rfl, rfl, rfl⟩
  all_goals cases parts
  all_goals exact .inl rfl

theorem fits_of_officeParts {i : Instr} {dest : Nat} {kind : OfficeKind} {req : Nat} {body : List Byte}
    (fit : i.wf = true) (parts : officeParts i = some (dest, kind, req, body)) : fits 1 req = true := by
  cases i
  all_goals cases parts
  all_goals simp only [Instr.wf, Bool.and_eq_true] at fit
  all_goals simp only [fit]

/-- An office request is received as the command it was written from (R157, R168, R169). -/
theorem receiveOffice_encodeOffice {i : Instr} {bs : List Byte} (fit : i.wf = true) (sent : encodeOffice i = some bs) :
    receiveOffice bs = i := by
  obtain ⟨⟨dest, kind, req, body⟩, parts, rfl⟩ := Option.map_eq_some_iff.1 sent
  have short := officeParts_length fit parts
  have low : ¬ 1024 < body.length := by omega
  have fitReq := fits_of_officeParts fit parts
  rcases officeParts_dest parts with rfl | ⟨text, rfl, rfl, rfl⟩
  · rw [receiveOffice_officeFrameBytes rfl (fits_code kind) fitReq short]
    simp only [readOfficeBody, if_neg low, if_true, ofCode_code, Option.bind_some, readRequest_of_parts fit parts,
      Option.getD_some]
  · simp only [Instr.wf, Bool.and_eq_true] at fit
    obtain ⟨⟨_, place⟩, shown⟩ := fit
    have range : (1 ≤ dest ∧ dest ≤ 16) ∨ dest = 255 := by simpa [isPanelDest, isFloorAddr] using place
    have away : dest ≠ 0 := by omega
    rw [receiveOffice_officeFrameBytes (fits_iff.2 (by omega)) (fits_code _) fitReq short]
    simp only [readOfficeBody, if_neg low, if_neg away, ofCode_code, place, and_self, if_true, readPanel_bytes shown,
      Option.map_some, Option.getD_some]

/-! ### Replies to a POLL (R146, R170) -/

theorem byteField_toggleBytes (t : Bool) (bs : List Byte) :
    byteField (toggleBytes t ++ bs) = some (BitVec.ofNat 8 t.toNat, bs) := by cases t <;> rfl

theorem readToggle_toNat (t : Bool) : readToggle (BitVec.ofNat 8 t.toNat) = some t := by cases t <;> rfl

theorem u16Field_toBE (n : U16) (bs : List Byte) : u16Field (toBE 2 n.val ++ bs) = some (n, bs) := by
  have value : (BitVec.ofNat 8 (n.val / 256)).toNat * 256 + (BitVec.ofNat 8 n.val).toNat = n.val := by
    rw [BitVec.toNat_ofNat, BitVec.toNat_ofNat]
    omega
  have number : Fin.ofNat 65536 n.val = n := Fin.ext (Nat.mod_eq_of_lt n.isLt)
  have bytes : toBE 2 n.val ++ bs = .ofNat 8 (n.val / 256) :: .ofNat 8 n.val :: bs := by simp [toBE]
  rw [bytes, u16Field, value, number]

theorem u16Field_toBE_last (n : U16) : u16Field (toBE 2 n.val) = some (n, []) := by
  rw [← List.append_nil (toBE 2 n.val), u16Field_toBE]

theorem ofCode_code_class (c : ImpClass) : ImpClass.ofCode c.code = some c := by cases c <;> rfl

theorem fits_code_class (c : ImpClass) : fits 1 c.code = true := by cases c <;> rfl

theorem capsOfByte_capsByte (c : Capabilities) : capsOfByte (capsByte c) = some c := by
  obtain ⟨sMono, sColour, sFull, lMono, lColour, lFull⟩ := c
  revert sMono sColour sFull lMono lColour lFull
  decide

theorem flagsOfByte_flagsByte (f : EngineFlags) : flagsOfByte (flagsByte f) = some f := by
  obtain ⟨door, ready, paper, toner⟩ := f
  revert door ready paper toner
  decide

theorem readSides_simplex (c : ImpClass) : readSides 1 c.code 255 = some (.simplex c) := by
  rw [readSides, if_pos rfl, ofCode_code_class, Option.map_some]

theorem readSides_duplex (c d : ImpClass) : readSides 2 c.code d.code = some (.duplex c d) := by
  rw [readSides, ofCode_code_class, ofCode_code_class, Option.bind_some, Option.map_some]

/-- The toggle and the kind of an EVENT are read, then what its kind carries (R154, R170). -/
theorem readEvent_of_parts {i : Instr} {addr : Nat} {body : List Byte} (fit : i.wf = true)
    (inRange : ∀ addr toggle n, i = .card addr toggle n → Machine.cardInRange n = true)
    (parts : pollReplyParts i = some (addr, 9, body)) : readEvent addr body = some i := by
  cases i <;> cases parts
  case cancel | finish =>
    exact bind_of_read (byteField_toggleBytes _ _) <| bind_of_read (readToggle_toNat _) <|
      bind_of_read (field_toBE_last rfl) rfl
  all_goals simp only [List.append_assoc]
  all_goals refine bind_of_read (byteField_toggleBytes _ _) <| bind_of_read (readToggle_toNat _) <|
    bind_of_read (field_toBE rfl _) ?_
  case card toggle number =>
    have numbered := Bool.and_eq_true_iff.1 fit
    have range : 1 ≤ number ∧ number ≤ Config.maxCard := by
      simpa [Machine.cardInRange] using inRange _ _ _ rfl
    exact bind_of_read (field_toBE_last numbered.2) (if_pos range)
  case feed toggle sheet sides =>
    refine bind_of_read (u16Field_toBE sheet _) ?_
    cases sides with
    | simplex c =>
      simp only [Sides.bytes, List.append_assoc]
      exact bind_of_read (field_toBE rfl _) <| bind_of_read (field_toBE (fits_code_class c) _) <|
        bind_of_read (field_toBE_last rfl) <| bind_of_read (readSides_simplex c) rfl
    | duplex c d =>
      simp only [Sides.bytes, List.append_assoc]
      exact bind_of_read (field_toBE rfl _) <| bind_of_read (field_toBE (fits_code_class c) _) <|
        bind_of_read (field_toBE_last (fits_code_class d)) <| bind_of_read (readSides_duplex c d) rfl
  case delivered sheet => exact bind_of_read (u16Field_toBE_last sheet) rfl
  case recovered restart => exact bind_of_read (u16Field_toBE_last restart) rfl
  case jam location => rfl
  case status flags => exact bind_of_read rfl <| bind_of_read (flagsOfByte_flagsByte flags) rfl

theorem readHello_bytes (token : U16) (caps : Capabilities) :
    readHello (0 :: toBE 2 token.val ++ [capsByte caps]) = some (0, token, caps) :=
  bind_of_read rfl <| bind_of_read (u16Field_toBE token _) <| bind_of_read rfl <|
    bind_of_read (capsOfByte_capsByte caps) rfl

/-- A station's reply has the kind byte of HELLO, NOTHING or EVENT (R168). -/
theorem pollReplyParts_cases {i : Instr} {addr kind : Nat} {body : List Byte}
    (parts : pollReplyParts i = some (addr, kind, body)) : kind = 9 ∨ i = .nothing addr ∧ kind = 8 ∧ body = []
      ∨ ∃ token caps, i = .hello addr token caps ∧ kind = 7 ∧ body = 0 :: toBE 2 token.val ++ [capsByte caps] := by
  cases i <;> cases parts
  case nothing => exact .inr (.inl ⟨rfl, rfl, rfl⟩)
  case hello => exact .inr (.inr ⟨_, _, rfl, rfl, rfl⟩)
  all_goals exact .inl rfl

theorem fits_of_pollReplyParts {i : Instr} {addr kind : Nat} {body : List Byte} (fit : i.wf = true)
    (parts : pollReplyParts i = some (addr, kind, body)) : fits 1 addr = true := by
  cases i <;> cases parts
  case card => exact (Bool.and_eq_true_iff.1 fit).1
  all_goals exact fit

/-- A station's reply is received in a POLL's window as the command it was written from (R146, R170). -/
theorem receiveFloor_encodePollReply {i : Instr} {bs : List Byte} (fit : i.wf = true)
    (inRange : ∀ addr toggle n, i = .card addr toggle n → Machine.cardInRange n = true)
    (sent : encodePollReply i = some bs) : receiveFloor .poll bs = i := by
  obtain ⟨⟨addr, kind, body⟩, parts, rfl⟩ := Option.map_eq_some_iff.1 sent
  have number := toNat_of_fits (fits_of_pollReplyParts fit parts)
  have read (short : fits 1 kind = true) (reads : readPollReply addr kind body = some i) :
      receiveFloor .poll (sealFrame (toBE 1 addr ++ toBE 1 kind ++ body)) = i := by
    have opened : openFrame (sealFrame (toBE 1 addr ++ toBE 1 kind ++ body)) =
        some (.ofNat 8 addr :: .ofNat 8 kind :: body) := by simp [openFrame_sealFrame, toBE]
    simp only [receiveFloor, opened, number, toNat_of_fits short, reads, Option.getD_some]
  rcases pollReplyParts_cases parts with rfl | ⟨rfl, rfl, rfl⟩ | ⟨token, caps, rfl, rfl, rfl⟩
  · exact read rfl (readEvent_of_parts fit inRange parts)
  · exact read rfl rfl
  · exact read rfl (by simp only [readPollReply, readHello_bytes, Option.bind_some, if_true])

/-- Settles O59: the office's requests and the stations' replies, each read back from its frame. -/
theorem framesRoundTrip : Obligations.FramesRoundTrip := fun _ _ fit =>
  ⟨receiveOffice_encodeOffice fit, fun sent inRange => receiveFloor_encodePollReply fit inRange sent⟩

end Sys2Proof

namespace Sys2Proof.Machine

set_option Elab.async false

/-! ## Panel text, and frames that are no request (R147, R156, R157, R164) -/

/-- An address is polled while it is PRESENT or LOST (R147, R150). -/
theorem isPolled_iff {p : Presence} : isPolled p = true ↔ p = .present ∨ p = .lost := by
  cases p <;> simp [isPolled]

theorem isPolled_eq_beq (p : Presence) : isPolled p = (p == .present || p == .lost) := by
  cases p <;> rfl

theorem isPolled_eq_false {p : Presence} : isPolled p = false ↔ p = .absent ∨ p = .conflict := by
  cases p <;> simp [isPolled]

/-- The limits of a panel text (R164). -/
theorem panelOk_iff {p : PanelPayload} : panelOk p = true ↔ p.time ≤ 60 ∧ p.one.length ≤ 20 ∧ p.two.length ≤ 20
    ∧ (∀ c ∈ p.one, 32 ≤ c.toNat ∧ c.toNat ≤ 126) ∧ ∀ c ∈ p.two, 32 ≤ c.toNat ∧ c.toNat ≤ 126 := by
  simp [panelOk, isPanelChar, and_assoc]

theorem placePanel_eq (s : State) (a : Addr) (p : PanelPayload) : placePanel s a p =
    { s with presence := s.presence.set a { s.presence.get a with panel := (s.presence.get a).panel ++ [p] } } := rfl

/-- A text placed in the FIFO of each of several addresses joins each tail once (R156, R164). -/
theorem foldl_placePanel {l : List Addr} (once : l.Nodup) (s : State) (p : PanelPayload) :
    ∃ t : Table PresenceRecord 16, l.foldl (fun s a => placePanel s a p) s = { s with presence := t }
      ∧ ∀ b : Addr, t.get b = if b ∈ l then { s.presence.get b with panel := (s.presence.get b).panel ++ [p] }
          else s.presence.get b := by
  induction l generalizing s with
  | nil => exact ⟨s.presence, rfl, fun b => (if_neg List.not_mem_nil).symm⟩
  | cons a l ih =>
    obtain ⟨new, once⟩ := List.nodup_cons.1 once
    obtain ⟨t, placed, records⟩ := ih once (placePanel s a p)
    refine ⟨t, placed, fun b => ?_⟩
    rw [records, placePanel_eq, Table.get_set]
    by_cases same : b = a
    · subst same
      simp [new]
    · simp [same]

theorem exec_panelText {s : State} (low : s.resetLow = false) (req dest : Nat) (p : PanelPayload) {status : Status}
    {figures : Figures} {t : State} (reply : panelText dest p s = ⟨status, figures, t⟩) :
    exec (.panelText req dest p) s = .next (answered t .panelText req status figures) := by
  rw [exec, execPanelText, whenRunning_eq _ _ low, reply]
  rfl

/-- A frame to destination 0 closes an open window, but for WINDOW DATA (R162). -/
theorem closesWindow_iff {dest kind : Nat} : closesWindow dest kind = true ↔ dest = 0 ∧ kind ≠ 28 := by
  rw [closesWindow, show OfficeKind.windowData.code = 28 from rfl]
  simp

/-- Panel text outside its limits or its destinations is refused (R157, R164). -/
theorem panelText_badRequest (s : State) {dest : Nat} {p : PanelPayload} (away : 1 ≤ dest)
    (out : panelOk p = false ∨ (16 < dest ∧ dest ≠ 255)) : panelText dest p s = refuse .badRequest s := by
  rw [panelText, if_neg (by omega)]
  obtain bad | ⟨high, one⟩ := out
  · rw [if_pos (by rw [bad]; rfl)]
  · rw [if_neg one, floorAddr_eq_none.2 (.inr high)]
    split <;> rfl

theorem panelText_of_floor (s : State) (a : Addr) {p : PanelPayload} (ok : panelOk p = true) :
    panelText (a.val + 1) p s = panelToOne a p s := by
  rw [panelText, if_neg (by omega), if_neg (by rw [ok]; exact nofun), if_neg (by omega), floorAddr_val]

theorem panelText_of_all (s : State) {p : PanelPayload} (ok : panelOk p = true) :
    panelText 255 p s = panelToAll p s := by
  rw [panelText, if_neg (by decide), if_neg (by rw [ok]; exact nofun), if_pos rfl]

/-- Panel text for one station: ABSENT, PANEL_BUSY, or the tail of its FIFO (R156, R164). -/
theorem panelToOne_eq (s : State) (a : Addr) (p : PanelPayload) : panelToOne a p s =
    if (s.presence.get a).state = .absent ∨ (s.presence.get a).state = .conflict then refuse .absent s
    else if 2 ≤ (s.presence.get a).panel.length then refuse .panelBusy s
    else accept .none (placePanel s a p) := by
  unfold panelToOne
  by_cases polled : isPolled (s.presence.get a).state = true
  · have reached : ¬ ((s.presence.get a).state = .absent ∨ (s.presence.get a).state = .conflict) := by
      rw [← isPolled_eq_false, polled]
      exact nofun
    rw [if_neg (by rw [polled]; exact nofun), if_neg reached]
    by_cases full : 2 ≤ (s.presence.get a).panel.length
    · rw [if_pos full, if_neg (by simp [panelRoom, Config.panelSize]; omega)]
    · rw [if_neg full, if_pos (by simpa [panelRoom, Config.panelSize, polled] using full)]
  · rw [Bool.not_eq_true] at polled
    rw [if_pos (by rw [polled]; rfl), if_pos (isPolled_eq_false.1 polled)]

/-- Settles O44: panel text by its limits and its destination; the frames that are no request by their destination and
their kind. -/
theorem panelTextsAndOtherFrames : Obligations.PanelTextsAndOtherFrames := by
  intro s req dest kind p a low ok q room
  have limits : panelOk p = true ↔ ok := panelOk_iff
  have rooms : panelRoom s = room := funext fun b => by
    rw [panelRoom, isPolled_eq_beq]
    rfl
  refine ⟨?_, ?_, fun away out => ?_, fun within => ?_, fun within => ?_⟩
  · rw [exec, execDiscardedFrame, whenRunning_eq _ _ low]
  · rw [exec, execBadRequestFrame, whenRunning_eq _ _ low]
    by_cases closes : dest = 0 ∧ kind ≠ 28
    · rw [if_pos (closesWindow_iff.2 closes), if_pos closes]
      rfl
    · rw [if_neg (mt closesWindow_iff.1 closes), if_neg closes]
      rfl
  · refine exec_panelText low req dest p (panelText_badRequest s away (out.imp_left fun bad => ?_))
    rwa [← Bool.not_eq_true, limits]
  · have reply := (panelText_of_floor s a (limits.2 within)).trans (panelToOne_eq s a p)
    split
    next gone => exact exec_panelText low req _ p (reply.trans (if_pos gone))
    next reached =>
      rw [if_neg reached] at reply
      split
      next full => exact exec_panelText low req _ p (reply.trans (if_pos full))
      next free => exact exec_panelText low req _ p (reply.trans (if_neg free))
  · obtain ⟨t, placed, records⟩ := foldl_placePanel (allAddrs_nodup.filter room) s p
    refine ⟨t, exec_panelText low req 255 p ?_, fun b => ?_⟩
    · rw [panelText_of_all s (limits.2 within), panelToAll, rooms, placed]
      rfl
    · rw [records b]
      simp [mem_allAddrs]

end Sys2Proof.Machine

namespace Sys2Proof.Machine

set_option Elab.async false

/-! ## Rounds: the visit and the probe that are due (R147, R148, R150, R155) -/

/-! ### The lowest address -/

theorem allAddrs_ascending : allAddrs.Pairwise (· < ·) := by decide

/-- In ascending order the first address found is the lowest. -/
theorem find?_of_lowest {l : List Addr} (ascending : l.Pairwise (· < ·)) {p : Addr → Bool} {a : Addr} (mem : a ∈ l)
    (found : p a = true) (lowest : ∀ b ∈ l, b < a → p b = false) : l.find? p = some a := by
  induction l with
  | nil => cases mem
  | cons b l ih =>
    obtain ⟨below, ascending⟩ := List.pairwise_cons.1 ascending
    obtain rfl | mem := List.mem_cons.1 mem
    · exact List.find?_cons_of_pos found
    · rw [List.find?_cons_of_neg (by rw [lowest b List.mem_cons_self (below a mem)]; exact nofun)]
      exact ih ascending mem fun c hc => lowest c (List.mem_cons_of_mem b hc)

theorem head?_of_lowest {l : List Addr} (ascending : l.Pairwise (· < ·)) {a : Addr} (mem : a ∈ l)
    (lowest : ∀ b ∈ l, ¬ b < a) : l.head? = some a := by
  have found : l.find? (fun _ => true) = some a :=
    find?_of_lowest ascending mem rfl fun b other below => absurd below (lowest b other)
  cases l with
  | nil => cases mem
  | cons b l => exact found

theorem mem_laterAddrs {s : State} {a : Addr} : a ∈ laterAddrs s ↔ ∀ c : Addr, s.roundPos = some c → c < a := by
  rw [laterAddrs, List.mem_filter, and_iff_right (mem_allAddrs a)]
  cases s.roundPos <;> simp

theorem mem_absentAddrs {s : State} {a : Addr} : a ∈ absentAddrs s ↔ (s.presence.get a).state = .absent := by
  rw [absentAddrs, List.mem_filter, and_iff_right (mem_allAddrs a), beq_iff_eq]

theorem polled_iff {s : State} {a : Addr} :
    polled s a = true ↔ (s.presence.get a).state = .present ∨ (s.presence.get a).state = .lost := isPolled_iff

/-! ### The visit that is due (R150) -/

/-- The visits of the round are made: no polled address is above the one visited last. -/
theorem find?_laterAddrs_eq_none {s : State}
    (made : ∀ b, polled s b = true → ¬ ∀ c : Addr, s.roundPos = some c → c < b) :
    (laterAddrs s).find? (polled s) = none :=
  List.find?_eq_none.2 fun b later polled => made b polled (mem_laterAddrs.1 later)

theorem dueVisit_of_later {s : State} {a : Addr} (on : polled s a = true)
    (later : ∀ c : Addr, s.roundPos = some c → c < a)
    (lowest : ∀ b < a, polled s b = true → ¬ ∀ c : Addr, s.roundPos = some c → c < b) : dueVisit s = some a := by
  have found : (laterAddrs s).find? (polled s) = some a :=
    find?_of_lowest (allAddrs_ascending.filter _) (mem_laterAddrs.2 later) on fun b mem below =>
      Bool.eq_false_iff.2 fun polled => lowest b below polled (mem_laterAddrs.1 mem)
  rw [dueVisit, found]

/-- With no address ABSENT a new round follows at once, from the lowest polled address. -/
theorem dueVisit_of_new {s : State} {a : Addr} (on : polled s a = true)
    (made : ∀ b, polled s b = true → ¬ ∀ c : Addr, s.roundPos = some c → c < b)
    (full : ∀ b, (s.presence.get b).state ≠ .absent) (lowest : ∀ b < a, ¬ polled s b = true) : dueVisit s = some a := by
  have none : absentAddrs s = [] := List.eq_nil_iff_forall_not_mem.2 fun b mem => full b (mem_absentAddrs.1 mem)
  rw [dueVisit, find?_laterAddrs_eq_none made, none]
  exact find?_of_lowest allAddrs_ascending (mem_allAddrs a) on fun b _ below => Bool.eq_false_iff.2 (lowest b below)

/-! ### The probe that is due (R150) -/

theorem dueProbe_of_above {s : State} {a : Addr} (missing : (s.presence.get a).state = .absent)
    (made : ∀ b, polled s b = true → ¬ ∀ c : Addr, s.roundPos = some c → c < b)
    (above : ∀ c : Addr, s.lastProbed = some c → c < a)
    (lowest : ∀ b < a, (s.presence.get b).state = .absent → ¬ ∀ c : Addr, s.lastProbed = some c → c < b) :
    dueProbe s = some a := by
  have first {p : Addr → Bool} (reads : ∀ b, p b = true ↔ ∀ c : Addr, s.lastProbed = some c → c < b) :
      (absentAddrs s).find? p = some a :=
    find?_of_lowest (allAddrs_ascending.filter _) (mem_absentAddrs.2 missing) ((reads a).2 above) fun b mem below =>
      Bool.eq_false_iff.2 fun found => lowest b below (mem_absentAddrs.1 mem) ((reads b).1 found)
  rw [dueProbe, find?_laterAddrs_eq_none made]
  dsimp only
  rw [first fun b => by cases s.lastProbed <;> simp]

/-- Above the address probed before there is none: the probes wrap to the lowest. -/
theorem dueProbe_of_wrap {s : State} {a : Addr} (missing : (s.presence.get a).state = .absent)
    (made : ∀ b, polled s b = true → ¬ ∀ c : Addr, s.roundPos = some c → c < b)
    (through : ∀ b, (s.presence.get b).state = .absent → ¬ ∀ c : Addr, s.lastProbed = some c → c < b)
    (lowest : ∀ b < a, (s.presence.get b).state ≠ .absent) : dueProbe s = some a := by
  have none {p : Addr → Bool} (reads : ∀ b, p b = true ↔ ∀ c : Addr, s.lastProbed = some c → c < b) :
      (absentAddrs s).find? p = none :=
    List.find?_eq_none.2 fun b mem found => through b (mem_absentAddrs.1 mem) ((reads b).1 found)
  have head : (absentAddrs s).head? = some a :=
    head?_of_lowest (allAddrs_ascending.filter _) (mem_absentAddrs.2 missing) fun b mem below =>
      lowest b below (mem_absentAddrs.1 mem)
  rw [dueProbe, find?_laterAddrs_eq_none made]
  dsimp only
  rw [none fun b => by cases s.lastProbed <;> simp, head]

/-! ### The message of a visit (R155) -/

theorem firstMessage_of_jobClosed {p : PresenceRecord} {j : JobClosed} (pending : p.jobClosed = some j) :
    firstMessage p = some .jobClosed := by simp [firstMessage, pending]

theorem firstMessage_of_cardResult {p : PresenceRecord} {c : CardResult} (unclosed : p.jobClosed = none)
    (pending : p.cardResult = some c) : firstMessage p = some .cardResult := by simp [firstMessage, unclosed, pending]

theorem firstMessage_of_resume {p : PresenceRecord} (unclosed : p.jobClosed = none) (uncarded : p.cardResult = none)
    (pending : p.resume = true) : firstMessage p = some .resume := by simp [firstMessage, unclosed, uncarded, pending]

theorem firstMessage_of_panel {p : PresenceRecord} (unclosed : p.jobClosed = none) (uncarded : p.cardResult = none)
    (still : p.resume = false) : firstMessage p = if p.panel = [] then none else some .panel := by
  simp [firstMessage, unclosed, uncarded, still]

/-- A visit sends its first message, if there is one, and then POLL (R150, R155). -/
theorem visitAddr_eq {s : State} {a : Addr} {sent : Option Message} (first : firstMessage (s.presence.get a) = sent) :
    visitAddr s a = { s with
      awaiting := .poll a sent, roundPos := some a
      floorTx := (sent.map (messageFrame a (s.presence.get a))).getD [] ++ [.poll a] } := by
  rw [visitAddr, first]
  cases sent <;> rfl

/-! ### VISIT and ABSENT_PROBE -/

theorem flcFree_iff {s : State} : flcFree s = true ↔ s.sweep = .idle ∧ s.awaiting = .none := by
  simp [flcFree]

theorem exec_visit {s : State} (low : s.resetLow = false) :
    exec .visit s = .next (if flcFree s then ((dueVisit s).map (visitAddr s)).getD s else s) := by
  rw [exec, execVisit, whenRunning_eq _ _ low]
  cases dueVisit s <;> rfl

theorem exec_absentProbe {s : State} (low : s.resetLow = false) :
    exec .absentProbe s = .next (if flcFree s then ((dueProbe s).map (probeAddr s)).getD s else s) := by
  rw [exec, execAbsentProbe, whenRunning_eq _ _ low]
  cases dueProbe s <;> rfl

/-- Settles O46: nothing while the link is taken; else the visit that is due with its first message, or the probe. -/
theorem roundsVisitAndProbe : Obligations.RoundsVisitAndProbe := by
  intro s a low on missing later above q visited
  have ons {b : Addr} : polled s b = true ↔ on b := polled_iff
  refine ⟨fun taken => ?_, fun idle quiet => ⟨fun present due => ?_, fun gone made due => ?_⟩⟩
  · have busy : ¬ flcFree s = true := by
      rw [flcFree_iff]
      tauto
    rw [exec_visit low, exec_absentProbe low, if_neg busy, if_neg busy]
    exact ⟨rfl, rfl⟩
  · have visit : dueVisit s = some a := by
      obtain ⟨next, lowest⟩ | ⟨made, full, lowest⟩ := due
      · exact dueVisit_of_later (ons.2 present) next fun b below polled => lowest b below (ons.1 polled)
      · exact dueVisit_of_new (ons.2 present) (fun b polled => made b (ons.1 polled)) full
          fun b below polled => lowest b below (ons.1 polled)
    have sends {sent : Option Message} {frames : List FloorFrame} (first : firstMessage q = sent)
        (frame : (sent.map (messageFrame a q)).getD [] = frames) : exec .visit s = .next (visited sent frames) := by
      rw [exec_visit low, if_pos (flcFree_iff.2 ⟨idle, quiet⟩), visit, Option.map_some, Option.getD_some,
        visitAddr_eq first, frame]
    refine ⟨fun j pending => sends (firstMessage_of_jobClosed pending) ?_, fun unclosed =>
      ⟨fun c pending => sends (firstMessage_of_cardResult unclosed pending) ?_, fun uncarded =>
        ⟨fun pending => sends (firstMessage_of_resume unclosed uncarded pending) ?_, fun still => ?_⟩⟩⟩
    · simp [messageFrame, pending]
    · simp [messageFrame, pending]
    · simp [messageFrame, pending]
    · have panel := firstMessage_of_panel unclosed uncarded still
      exact ⟨fun p l pending => sends (panel.trans (if_neg (by rw [pending]; exact nofun)))
        (by simp [messageFrame, pending]), fun empty => sends (panel.trans (if_pos empty)) rfl⟩
  · have made (b : Addr) (polled : polled s b = true) := made b (ons.1 polled)
    have probe : dueProbe s = some a := by
      obtain ⟨next, lowest⟩ | ⟨through, lowest⟩ := due
      · exact dueProbe_of_above gone made next lowest
      · exact dueProbe_of_wrap gone made through lowest
    rw [exec_absentProbe low, if_pos (flcFree_iff.2 ⟨idle, quiet⟩), probe]
    rfl

end Sys2Proof.Machine

namespace Sys2Proof.Machine

set_option Elab.async false

/-! ## A sweep asked for decides nothing before the exchange ends (R149)

Whether a sweep is idle or asked for is read at the end of an exchange and, for a CARD, where its taking would start
work. Every other operation of a reply window does the same in both, and keeps which it is. -/

/-- The state with its sweep as given. -/
def swept (s : State) (v : Sweep) : State := { s with sweep := v }

/-- The result of an event with the sweep of its state as given. -/
def EventResult.swept (r : EventResult) (v : Sweep) : EventResult := { r with state := Machine.swept r.state v }

/-- The result of a close with the sweep of its state as given. -/
def sweptClose (r : State × Option JobClosed) (v : Sweep) : State × Option JobClosed := (swept r.1 v, r.2)

section
variable (s : State) (v : Sweep) (a : Addr)

theorem swept_stations : (swept s v).stations = s.stations := rfl

theorem swept_presence : (swept s v).presence = s.presence := rfl

theorem swept_ite (c : Prop) [Decidable c] (s t : State) : swept (if c then s else t) v =
    if c then swept s v else swept t v := apply_ite (swept · v) c s t

/-! ### Timers, rest states, messages -/

theorem refreshIdle_swept : refreshIdle (swept s v) a = swept (refreshIdle s a) v := by
  rw [refreshIdle_eq_idled, refreshIdle_eq_idled]
  rfl

theorem takeRest_swept : takeRest (swept s v) a = swept (takeRest s a) v := by
  rw [takeRest, takeRest, swept_ite]
  rfl

theorem withdrawResume_swept : withdrawResume (swept s v) a = swept (withdrawResume s a) v := by
  rw [withdrawResume_eq_forgot, withdrawResume_eq_forgot]
  rfl

theorem levelNoted_swept : levelNoted (swept s v) = swept (levelNoted s) v := by
  rw [levelNoted, levelNoted, swept_ite]
  rfl

/-! ### Authorizations -/

theorem releaseAuthorization_swept : releaseAuthorization (swept s v) a = swept (releaseAuthorization s a) v := by
  cases held : channelOf s a with
  | none =>
    rw [releaseAuthorization_of_none held, releaseAuthorization_of_none (s := swept s v) held]
    rfl
  | some c =>
    cases queue : s.waitQueue with
    | nil =>
      rw [releaseAuthorization_of_empty held queue, releaseAuthorization_of_empty (s := swept s v) held queue]
      rfl
    | cons b q =>
      cases carried : (s.stations.get b).authCard with
      | none =>
        rw [releaseAuthorization_of_cardless held queue carried,
          releaseAuthorization_of_cardless (s := swept s v) held queue carried]
        rfl
      | some card =>
        rw [releaseAuthorization_of_waiting held queue carried,
          releaseAuthorization_of_waiting (s := swept s v) held queue carried]
        rfl

theorem unauthorized_swept : unauthorized (swept s v) a = swept (unauthorized s a) v := by
  rw [unauthorized, releaseAuthorization_swept]
  rfl

theorem granted_swept (n : AccountNo) (guest : Bool) (ceiling : Option Nat) (hold : Nat) :
    granted (swept s v) a n guest ceiling hold = swept (granted s a n guest ceiling hold) v := by
  let charged := setAccount s n (chargedAccount (s.accounts.get n) hold)
  let reserved (u : State) : State := { u with reservations := u.reservations + 1 }
  have noted : levelNoted (reserved (releaseAuthorization (swept charged v) a)) =
      swept (levelNoted (reserved (releaseAuthorization charged a))) v := by
    rw [releaseAuthorization_swept]
    exact levelNoted_swept (reserved _) v
  let x := s.accounts.get n
  let opened : Station := idled s.timers { s.stations.get a with
    state := .active, timer := none, authCard := none
    job := some (openingJob n guest (decide (s.mode = .service)) x ceiling hold) }
  exact congrArg
    (fun u : State => seat { u with plans := u.plans.set x.plan (capturedPlan (s.plans.get x.plan)) } a opened) noted

theorem goOnline_swept (card : AuthCard) : goOnline (swept s v) a card = swept (goOnline s a card) v := by
  rw [goOnline_eq, goOnline_eq, show freeChannel (swept s v) = freeChannel s from rfl]
  cases freeChannel s <;> rfl

/-! ### Retries and closes -/

theorem retryStation_swept : retryStation (swept s v) a = swept (retryStation s a) v := by
  simp only [retryStation]
  rw [swept_stations]
  split
  next j wanted _ _ _ =>
    rw [resumeStation_extend, resumeStation_extend, swept_ite]
    rfl
  next => rfl

theorem retryAccount_swept (n : AccountNo) : retryAccount (swept s v) n = swept (retryAccount s n) v := by
  unfold retryAccount
  generalize allAddrs = l
  induction l generalizing s with
  | nil => rfl
  | cons a l ih =>
    rw [List.foldl_cons, List.foldl_cons, ← ih, swept_ite, retryStation_swept]
    rfl

theorem settled_swept (why : EndReason) (j : Job) : settled (swept s v) a why j = swept (settled s a why j) v := by
  rw [settled, settled, swept_ite, show closed (swept s v) a why j = swept (closed s a why j) v from rfl,
    retryAccount_swept]
  rfl

theorem closeJob_swept (why : EndReason) : closeJob (swept s v) a why true = sweptClose (closeJob s a why true) v := by
  cases hj : jobAt s a with
  | none =>
    rw [closeJob_eq_none hj, closeJob_eq_none (s := swept s v) hj]
    rfl
  | some j =>
    rw [closeJob_eq_settled hj, closeJob_eq_settled (s := swept s v) hj, settled_swept]
    rfl

theorem beginClosing_swept (why : EndReason) :
    beginClosing (swept s v) a why = sweptClose (beginClosing s a why) v := by
  unfold beginClosing
  rw [swept_stations]
  cases (s.stations.get a).job with
  | none => rfl
  | some j =>
    dsimp only
    split
    · rw [← closeJob_swept]
      rfl
    · rfl

theorem closeToSlot_swept (why : EndReason) : closeToSlot (swept s v) a why = swept (closeToSlot s a why) v := by
  cases hj : jobAt s a with
  | none =>
    simp only [closeToSlot, closeJob_eq_none hj, closeJob_eq_none (s := swept s v) hj]
    rfl
  | some j =>
    rw [closeToSlot_eq_closedAway hj, closeToSlot_eq_closedAway (s := swept s v) hj, closedAway, settled_swept]
    rfl

theorem declineToSlot_swept (why : DeclineReason) :
    declineToSlot (swept s v) a why = swept (declineToSlot s a why) v := by
  rw [declineToSlot_eq_slotted, declineToSlot_eq_slotted, unauthorized_swept]
  rfl

/-! ### Station events -/

theorem takeCard_swept (n : Nat) : takeCard n (swept s v) a = (takeCard n s a).swept v := by
  unfold takeCard
  rw [swept_stations]
  cases (s.stations.get a).state with
  | idle =>
    dsimp only [authorizeCard]
    rw [show lookupCard (swept s v) n = lookupCard s n from rfl, show localChecks (swept s v) = localChecks s from rfl]
    cases localChecks s (lookupCard s n) with
    | decline why => exact congrArg (resultOf · _) (takeRest_swept s v a)
    | online => exact congrArg (resultOf · _) (goOnline_swept s v a _)
    | grant m ceiling hold =>
      dsimp only
      rw [grant_eq_granted, grant_eq_granted, granted_swept]
      rfl
  | offline | disabled | authorizing | active | held | jammed | closing | detached => rfl

theorem takeCancel_swept : takeCancel (swept s v) a = (takeCancel s a).swept v := by
  unfold takeCancel
  rw [swept_stations]
  split
  · rw [endAuthorization_eq_unauthorized, endAuthorization_eq_unauthorized, unauthorized_swept]
    rfl
  · rfl

theorem holdCheck_swept (j : Job) (e : InFlight) : holdCheck (swept s v) a j e = (holdCheck s a j e).swept v := by
  unfold holdCheck
  rw [show offerCovers (swept s v) = offerCovers s from rfl]
  split
  · rfl
  · split
    · rfl
    · unfold enterHeld
      rw [withdrawResume_swept]
      rfl

theorem takeFeed_swept (sheet : U16) (sides : Sides) :
    takeFeed sheet sides (swept s v) a = (takeFeed sheet sides s a).swept v := by
  unfold takeFeed
  rw [swept_stations]
  cases (s.stations.get a).state with
  | active =>
    cases (s.stations.get a).job with
    | none => rfl
    | some j =>
      dsimp only
      rw [show feedRefusal (swept s v) = feedRefusal s from rfl]
      cases feedRefusal s a j (feedNumber sheet) sides with
      | none => exact holdCheck_swept s v a j _
      | some r => rfl
  | offline | disabled | authorizing | idle | held | jammed | closing | detached => rfl

/-- A close with the ANSWER of its event. -/
theorem closeJob_result_swept (why : EndReason) (o : AnswerOutcome) :
    (⟨(closeJob (swept s v) a why true).1, o, attachClosed (closeJob (swept s v) a why true).2⟩ : EventResult) =
      EventResult.swept ⟨(closeJob s a why true).1, o, attachClosed (closeJob s a why true).2⟩ v := by
  rw [closeJob_swept]
  rfl

theorem takeJam_swept (cause : JamCause) : takeJam cause (swept s v) a = (takeJam cause s a).swept v := by
  unfold takeJam
  dsimp only
  rw [swept_stations]
  cases (s.stations.get a).state with
  | closing => exact closeJob_result_swept (recordJam s a cause) v a _ _
  | offline | disabled | authorizing | idle | active | held | jammed | detached => rfl

theorem orderError_swept : orderError (swept s v) a = (orderError s a).swept v := by
  rw [orderError, takeJam_swept]
  rfl

theorem takeMatching_swept (j : Job) (e : InFlight) (rest : List InFlight) :
    takeMatching (swept s v) a j e rest = (takeMatching s a j e rest).swept v := by
  unfold takeMatching
  dsimp only
  rw [swept_stations]
  split
  · exact closeJob_result_swept (setJob (countSheet s a j.service e) a (deliverEntry j e rest)) v a _ _
  · rfl

theorem matchDelivery_swept (sheet : U16) : matchDelivery sheet (swept s v) a = (matchDelivery sheet s a).swept v := by
  unfold matchDelivery
  rw [swept_stations]
  cases (s.stations.get a).job with
  | none => rfl
  | some j =>
    dsimp only
    cases j.inFlight with
    | nil => exact orderError_swept s v a
    | cons e rest =>
      dsimp only
      split
      · exact takeMatching_swept s v a j e rest
      · exact orderError_swept s v a

theorem takeDelivered_swept (sheet : U16) : takeDelivered sheet (swept s v) a = (takeDelivered sheet s a).swept v := by
  unfold takeDelivered
  rw [swept_stations]
  cases (s.stations.get a).state with
  | active | held | closing => exact matchDelivery_swept s v a sheet
  | jammed => exact orderError_swept s v a
  | offline | disabled | authorizing | idle | detached => rfl

theorem acceptRestart_swept (j : Job) (r : Nat) :
    acceptRestart (swept s v) a j r = (acceptRestart s a j r).swept v := by
  unfold acceptRestart
  dsimp only
  have refreshed := refreshIdle_swept
    (enter (setJob (meterWriteOff s a (restartWriteOff j r)) a (restartJob j r)) a .active) v a
  exact congrArg (fun u => plainAnswer (placeNotice u _) _) refreshed

theorem takeRecovered_swept (restart : U16) :
    takeRecovered restart (swept s v) a = (takeRecovered restart s a).swept v := by
  unfold takeRecovered
  dsimp only
  rw [swept_stations]
  split
  · split
    · rfl
    · split
      · rfl
      · exact acceptRestart_swept s v a _ _
  · rfl

theorem takeStatus_swept (f : EngineFlags) : takeStatus f (swept s v) a = (takeStatus f s a).swept v := by
  unfold takeStatus
  dsimp only
  rw [swept_stations]
  split <;> rfl

theorem takeFinish_swept : takeFinish (swept s v) a = (takeFinish s a).swept v := by
  unfold takeFinish
  rw [swept_stations]
  cases (s.stations.get a).state with
  | active | held =>
    dsimp only
    rw [beginClosing_swept]
    rfl
  | jammed => exact closeJob_result_swept s v a _ _
  | offline | disabled | authorizing | idle | closing | detached => rfl

/-! ### Loss and return, HELLO, probes -/

theorem returnIf_swept (lost : Bool) : returnIf lost (swept s v) a = swept (returnIf lost s a) v := by
  cases lost with
  | false => rfl
  | true =>
    simp only [returnIf, if_true, returnStation]
    rw [swept_stations, swept_ite, takeRest_swept]
    refine if_congr Iff.rfl ?_ rfl
    unfold restoreStation
    rw [swept_stations]
    split
    · exact refreshIdle_swept (backTo s a .active) v a
    · exact retryStation_swept (startTimer (backTo s a .held) a .holdWait) v a
    all_goals rfl

theorem cameBack_swept (sent : Option Message) : cameBack (swept s v) a sent = swept (cameBack s a sent) v := by
  rw [← returnIf_eq_cameBack, ← returnIf_eq_cameBack, ← returnIf_swept]
  rfl

theorem loseStation_swept : loseStation (swept s v) a = swept (loseStation s a) v := by
  unfold loseStation
  rw [swept_stations]
  cases (s.stations.get a).state with
  | authorizing => exact congrArg (startLossTimer · a) (declineToSlot_swept s v a _)
  | offline | disabled | idle | active | held | jammed | closing | detached => rfl

theorem missPoll_swept : missPoll (swept s v) a = swept (missPoll s a) v := by
  unfold missPoll
  dsimp only
  rw [swept_presence]
  cases (s.presence.get a).state with
  | present =>
    dsimp only
    rw [swept_ite]
    exact if_congr Iff.rfl (loseStation_swept (setPresence s a _) v a) rfl
  | lost | absent | conflict => rfl

theorem restartStation_swept : restartStation (swept s v) a = swept (restartStation s a) v := by
  unfold restartStation
  dsimp only
  rw [swept_stations]
  have renewed {t u : State} (same : t = swept u v) : newlyPresent t a = swept (newlyPresent u a) v := by
    rw [same]
    rfl
  refine renewed ?_
  cases (s.stations.get a).state with
  | authorizing => exact declineToSlot_swept s v a _
  | active | held | jammed | closing | detached => exact closeToSlot_swept s v a _
  | offline | disabled | idle => exact takeRest_swept s v a

theorem takeHello_swept (token : U16) (caps : Capabilities) (lost : Bool) :
    takeHello token caps a lost (swept s v) = swept (takeHello token caps a lost s) v := by
  unfold takeHello
  rw [swept_presence, swept_ite]
  refine if_congr Iff.rfl ?_ ?_
  · exact congrArg (clearToggle · a) (returnIf_swept s v a lost)
  · exact restartStation_swept (setPresence (clearToggle s a) a _) v a

theorem foundPresent_swept (token : U16) (caps : Capabilities) :
    foundPresent (swept s v) a token caps = swept (foundPresent s a token caps) v := by
  unfold foundPresent
  dsimp only
  rw [← takeRest_swept, swept_ite]
  rfl

theorem repeatAnswer_swept : repeatAnswer (swept s v) a = swept (repeatAnswer s a) v := by
  unfold repeatAnswer
  rw [swept_presence]
  cases (s.presence.get a).lastAnswer <;> rfl

end

end Sys2Proof.Machine

namespace Sys2Proof.Machine

set_option Elab.async false

/-! ## RESCAN FLOOR (R149) -/

/-! ### The exchange during which a sweep was asked for -/

/-- An exchange ended with no sweep asked for. -/
def ended (s : State) : State := { s with sweep := .idle, awaiting := .none }

@[simp] theorem ended_stations (s : State) : (ended s).stations = s.stations := rfl

theorem endExchange_swept_idle (s : State) : endExchange (swept s .idle) = ended s := endExchange_of_idle rfl

/-- A sweep asked for begins as the exchange ends, after the ANSWER of the visit (R149). -/
theorem endExchange_swept_requested (s : State) : endExchange (swept s .requested) = sweepBegun (ended s) := by
  rw [endExchange]
  exact if_pos rfl

/-- A command comes to the end of the exchange in `u` where no sweep is asked for, and there begins the sweep where one
is. -/
def Ends (c : Instr) (s u : State) : Prop :=
  exec c (swept s .idle) = .next (ended u) ∧ exec c s = .next (sweepBegun (ended u))

theorem swept_of_requested {s : State} (asked : s.sweep = .requested) : swept s .requested = s := by
  rw [swept, ← asked]

/-- What is done before the exchange ends does not depend on the sweep, so the end alone tells the two apart. -/
theorem ends_of_swept {s u : State} {c : Instr} (asked : s.sweep = .requested)
    (run : ∀ v, exec c (swept s v) = .next (endExchange (swept u v))) : Ends c s u := by
  refine ⟨by rw [run, endExchange_swept_idle], ?_⟩
  rw [← endExchange_swept_requested, ← run, swept_of_requested asked]

theorem Ends.of_same {s u : State} {c d : Instr} (asked : s.sweep = .requested)
    (same : ∀ v, exec c (swept s v) = exec d (swept s v)) (ends : Ends d s u) : Ends c s u := by
  have sames := same .requested
  rw [swept_of_requested asked] at sames
  exact ⟨(same .idle).trans ends.1, sames.trans ends.2⟩

/-! ### EVENTs at a station at rest -/

/-- An event that does not read the sweep. -/
def Unswept (ju : State → Addr → EventResult) : Prop := ∀ s v a, ju (swept s v) a = (ju s a).swept v

/-- An event that leaves a station at rest at rest: it starts no job and no authorization. -/
def Restful (ju : State → Addr → EventResult) : Prop :=
  ∀ s a, atRest (s.stations.get a).state = true → atRest ((ju s a).state.stations.get a).state = true

theorem startsWork_eq_false {s t : State} {a : Addr}
    (rests : atRest (s.stations.get a).state = true → atRest (t.stations.get a).state = true) :
    startsWork s t a = false := by
  rw [startsWork, isBusy_eq, isBusy_eq]
  cases rest : atRest (s.stations.get a).state with
  | true => rw [rests rest]; rfl
  | false => rfl

/-- The states of rest (R43). -/
theorem atRest_iff {st : StationState} : atRest st = true ↔ st = .offline ∨ st = .disabled ∨ st = .idle := by
  cases st <;> decide

theorem restful_takeCancel : Restful takeCancel := by
  intro s a rest
  obtain e | e | e := atRest_iff.1 rest <;> simp [takeCancel, plainAnswer, e, atRest]

theorem restful_takeFeed (sheet : U16) (sides : Sides) : Restful (takeFeed sheet sides) := by
  intro s a rest
  obtain e | e | e := atRest_iff.1 rest <;> simp [takeFeed, plainAnswer, e, atRest]

theorem restful_takeDelivered (sheet : U16) : Restful (takeDelivered sheet) := by
  intro s a rest
  obtain e | e | e := atRest_iff.1 rest <;> simp [takeDelivered, plainAnswer, e, atRest]

theorem restful_takeJam (cause : JamCause) : Restful (takeJam cause) := by
  intro s a rest
  obtain e | e | e := atRest_iff.1 rest <;> simp [takeJam, plainAnswer, recordJam_station, e, atRest]

theorem restful_takeRecovered (restart : U16) : Restful (takeRecovered restart) := by
  intro s a rest
  obtain e | e | e := atRest_iff.1 rest <;> simp [takeRecovered, plainAnswer, e, atRest]

theorem restful_takeStatus (f : EngineFlags) : Restful (takeStatus f) := by
  intro s a rest
  dsimp only [takeStatus, plainAnswer]
  split <;> simpa using rest

theorem restful_takeFinish : Restful takeFinish := by
  intro s a rest
  obtain e | e | e := atRest_iff.1 rest <;> simp [takeFinish, plainAnswer, e, atRest]

/-! ### What comes in the reply window -/

/-- An EVENT but a CARD is taken without a look at the sweep, and starts no work at a station at rest. -/
theorem exec_eventButCard {addr : Nat} {toggle : Bool} {c : Instr} (event : EventFrom addr toggle c)
    (other : ∀ number : Nat, c ≠ .card addr toggle number) :
    ∃ (kind : EventKind) (ju : State → Addr → EventResult), Unswept ju ∧ Restful ju ∧
      ∀ s : State, s.resetLow = false → exec c s = .next (stationReply addr s (takeEvent toggle kind ju)) := by
  have run (kind : EventKind) (ju : State → Addr → EventResult) (s : State) (low : s.resetLow = false) :
      whenRunning s (fun s => stationReply addr s (takeEvent toggle kind ju)) =
        .next (stationReply addr s (takeEvent toggle kind ju)) := whenRunning_eq _ _ low
  cases event with
  | card n least most => exact absurd rfl (other n)
  | cancel => exact ⟨_, _, takeCancel_swept, restful_takeCancel, run .cancel _⟩
  | feed n x => exact ⟨_, _, fun s v a => takeFeed_swept s v a n x, restful_takeFeed n x, run .feed _⟩
  | delivered n =>
    exact ⟨_, _, fun s v a => takeDelivered_swept s v a n, restful_takeDelivered n, run .delivered _⟩
  | jam x => exact ⟨_, _, fun s v a => takeJam_swept s v a (.location x), restful_takeJam _, run .jam _⟩
  | recovered n =>
    exact ⟨_, _, fun s v a => takeRecovered_swept s v a n, restful_takeRecovered n, run .recovered _⟩
  | status f => exact ⟨_, _, fun s v a => takeStatus_swept s v a f, restful_takeStatus f, run .status _⟩
  | finish => exact ⟨_, _, takeFinish_swept, restful_takeFinish, run .finish _⟩

/-- An EVENT taken and answered, whatever it starts (R53, R154). -/
def tookEvent (toggle : Bool) (kind : EventKind) (ju : State → Addr → EventResult) (a : Addr) (s : State) : State :=
  sendAnswer (refreshIdle (ju s a).state a) a
    { toggle, kind, outcome := (ju s a).outcome, attached := (ju s a).attached }

/-- The ANSWER of an EVENT leaves its station in the state that the event brought it to. -/
theorem tookEvent_state (toggle : Bool) (kind : EventKind) (ju : State → Addr → EventResult) (a : Addr) (s : State) :
    ((tookEvent toggle kind ju a s).stations.get a).state = ((ju s a).state.stations.get a).state := by
  obtain ⟨_, e⟩ := refreshIdle_eq (ju s a).state a
  rw [tookEvent, e]
  simp [sendAnswer]

section
variable {s : State} {a : Addr} {toggle : Bool} {ju : State → Addr → EventResult} (kind : EventKind)

/-- A new EVENT is taken with no sweep asked for, and where it starts no work (R149, R154). -/
theorem takeEvent_eq_tookEvent (new : (s.presence.get a).toggle ≠ some toggle)
    (free : s.sweep = .idle ∨ startsWork s (ju s a).state a = false) :
    takeEvent toggle kind ju a false s = tookEvent toggle kind ju a s := by
  obtain idle | still := free
  · exact (takeEvent_idle toggle kind ju a false s idle).trans (if_neg new)
  · exact (takeEvent_calm toggle kind ju a false s still).trans (if_neg new)

variable (unswept : Unswept ju)
include unswept

theorem tookEvent_swept (v : Sweep) :
    tookEvent toggle kind ju a (swept s v) = swept (tookEvent toggle kind ju a s) v := by
  rw [tookEvent, unswept]
  exact congrArg (sendAnswer · a _) (refreshIdle_swept (ju s a).state v a)

theorem startsWork_swept (v : Sweep) :
    startsWork (swept s v) (ju (swept s v) a).state a = startsWork s (ju s a).state a := by
  rw [unswept]
  rfl

theorem takeEvent_of_new (new : (s.presence.get a).toggle ≠ some toggle) {v : Sweep}
    (free : v = .idle ∨ startsWork s (ju s a).state a = false) :
    takeEvent toggle kind ju a false (swept s v) = swept (tookEvent toggle kind ju a s) v := by
  rw [← tookEvent_swept kind unswept]
  exact takeEvent_eq_tookEvent (s := swept s v) kind new (free.imp id (startsWork_swept unswept v).trans)

/-- A new EVENT that would start work is not taken where a sweep is asked for (log entry 5). -/
theorem takeEvent_of_work (new : (s.presence.get a).toggle ≠ some toggle)
    (work : startsWork s (ju s a).state a = true) :
    takeEvent toggle kind ju a false (swept s .requested) = swept s .requested := by
  have fresh : ¬ ((swept s .requested).presence.get a).toggle = some toggle := new
  refine (if_neg fresh).trans (if_pos ?_)
  exact (startsWork_swept unswept .requested).trans work

theorem takeEvent_swept (still : startsWork s (ju s a).state a = false) (v : Sweep) :
    takeEvent toggle kind ju a false (swept s v) = swept (takeEvent toggle kind ju a false s) v := by
  by_cases repeated : (s.presence.get a).toggle = some toggle
  · rw [takeEvent_of_repeat kind ju repeated, takeEvent_of_repeat (s := swept s v) kind ju repeated, repeatAnswer_swept]
  · rw [takeEvent_of_new kind unswept repeated (.inr still), takeEvent_eq_tookEvent kind repeated (.inr still)]

end

/-- What a valid frame comes to, as far as the sweep goes. -/
def UnsweptFrame (f : Addr → Bool → State → State) : Prop :=
  ∀ a lost s v, f a lost (swept s v) = swept (f a lost s) v

theorem unsweptFrame_takeEvent (toggle : Bool) (kind : EventKind) {ju : State → Addr → EventResult}
    (unswept : Unswept ju) (restful : Restful ju) : UnsweptFrame (takeEvent toggle kind ju) := by
  intro a lost s v
  rw [takeEvent_eq_returned, takeEvent_eq_returned toggle kind ju a lost s, returnIf_swept,
    takeEvent_swept kind unswept (startsWork_eq_false (restful _ a))]

/-- What may come in the reply window but a CARD: a miss, or a valid frame (R146, R151). -/
theorem exec_replyButCard {c : Instr} (reply : ReplyButCard c) :
    (∃ addr f, UnsweptFrame f ∧ ∀ s : State, s.resetLow = false → exec c s = .next (stationReply addr s f))
      ∨ c = .garbledReply ∨ c = .missedReply := by
  cases reply with
  | nothing addr =>
    exact .inl ⟨addr, fun a lost s => returnIf lost s a, fun a lost s v => returnIf_swept s v a lost, fun s low => by
      rw [exec, execNothing, whenRunning_eq _ _ low]⟩
  | hello addr token caps =>
    exact .inl ⟨addr, takeHello token caps, fun a lost s v => takeHello_swept s v a token caps lost, fun s low => by
      rw [exec, execHello, whenRunning_eq _ _ low]⟩
  | garbled => exact .inr (.inl rfl)
  | missed => exact .inr (.inr rfl)
  | event addr toggle c event other =>
    obtain ⟨kind, ju, unswept, restful, run⟩ := exec_eventButCard event other
    exact .inl ⟨addr, _, unsweptFrame_takeEvent toggle kind unswept restful, run⟩

section
variable {s : State} {a : Addr} {sent : Option Message} {c : Instr}

/-- A frame of the rotation's PROBE that is no HELLO, or none, ends the probe and no more (R150). -/
theorem probeTurn_of_mute (probe : s.awaiting = .probe a) {r : Option ProbeReply}
    (mute : r = none ∨ r = some .notHello ∨ r = some .garbled) : probeTurn s r = endExchange s := by
  simp only [probeTurn, probe]
  obtain rfl | rfl | rfl := mute <;> rfl

theorem stationReply_of_probe (probe : s.awaiting = .probe a) (addr : Nat) (f : Addr → Bool → State → State) :
    stationReply addr s f = endExchange s := by
  rw [← probeTurn_of_mute probe (.inr (.inl rfl))]
  simp only [stationReply, probe]

/-- A miss ends the visit alike whatever the sweep (R146, R151). -/
theorem ends_missPoll (low : s.resetLow = false) (asked : s.sweep = .requested) (poll : s.awaiting = .poll a sent) :
    Ends .garbledReply s (missPoll s a) ∧ Ends .missedReply s (missPoll s a) := by
  have misses (v : Sweep) := exec_miss (s := swept s v) low poll 0 (congrArg endExchange (missPoll_swept s v a))
  exact ⟨ends_of_swept asked fun v => (misses v).2.1, ends_of_swept asked fun v => (misses v).1⟩

/-- A garbled reply, or none, to the rotation's PROBE ends it and no more (R150). -/
theorem ends_mute (low : s.resetLow = false) (asked : s.sweep = .requested) (probe : s.awaiting = .probe a) :
    Ends .garbledReply s s ∧ Ends .missedReply s s := by
  have window (v : Sweep) := exec_probeWindow (s := swept s v) low fun _ _ poll => nomatch probe.symm.trans poll
  refine ⟨ends_of_swept asked fun v => ?_, ends_of_swept asked fun v => ?_⟩
  · rw [(window v).2, probeTurn_of_mute (s := swept s v) probe (.inr (.inr rfl))]
  · rw [(window v).1, probeTurn_of_mute (s := swept s v) probe (.inl rfl)]

/-- A valid frame of another address is a miss, one of an address no longer polled nothing (R146, R151). -/
theorem ends_unheard (asked : s.sweep = .requested) (poll : s.awaiting = .poll a sent) {addr : Nat}
    {f : Addr → Bool → State → State}
    (run : ∀ v, exec c (swept s v) = .next (stationReply addr (swept s v) f)) :
    (addr ≠ a.val + 1 → Ends c s (missPoll s a))
      ∧ (addr = a.val + 1 → isPolled (s.presence.get a).state = false → Ends c s s) := by
  refine ⟨fun other => ends_of_swept asked fun v => ?_, fun same gone => ends_of_swept asked fun v => ?_⟩
  · rw [run, stationReply_of_other (s := swept s v) poll other, missPoll_swept]
  · subst same
    rw [run]
    have unpolled : isPolled ((swept s v).presence.get a).state = false := gone
    simp only [stationReply, show (swept s v).awaiting = .poll a sent from poll, validReply, unpolled]
    exact congrArg (fun u => Host.Outcome.next (endExchange u)) ((if_pos rfl).trans (if_neg Bool.false_ne_true))

/-- A valid frame of the address polled is heard and taken alike whatever the sweep, where the taking is. -/
theorem ends_heard (asked : s.sweep = .requested) (poll : s.awaiting = .poll a sent)
    (polled : isPolled (s.presence.get a).state = true) {f : Addr → Bool → State → State}
    (run : ∀ v, exec c (swept s v) = .next (stationReply (a.val + 1) (swept s v) f)) {t : State}
    (takes : ∀ v, f a ((s.presence.get a).state == .lost) (swept (heard s a sent) v) = swept t v) : Ends c s t :=
  ends_of_swept asked fun v => by
    rw [run, stationReply_of_polled (s := swept s v) poll polled]
    exact congrArg (fun u => Host.Outcome.next (endExchange u)) (takes v)

/-- What may come to a POLL or a PROBE under way, but for a CARD, does what it would do with no sweep asked for; the
sweep begins as it ends (R149). -/
theorem ends_replyButCard (low : s.resetLow = false) (asked : s.sweep = .requested)
    (window : s.awaiting = .poll a sent ∨ s.awaiting = .probe a) (reply : ReplyButCard c) : ∃ u, Ends c s u := by
  obtain ⟨addr, f, unswept, run⟩ | rfl | rfl := exec_replyButCard reply
  · have run (v : Sweep) := run (swept s v) low
    obtain poll | probe := window
    · obtain ⟨missed, gone⟩ := ends_unheard asked poll run
      by_cases same : addr = a.val + 1
      · cases polled : isPolled (s.presence.get a).state with
        | true =>
          subst same
          exact ⟨_, ends_heard asked poll polled run fun v => unswept a _ _ v⟩
        | false => exact ⟨s, gone same polled⟩
      · exact ⟨_, missed same⟩
    · exact ⟨s, ends_of_swept asked fun v => by rw [run, stationReply_of_probe (s := swept s v) probe]⟩
  · obtain poll | probe := window
    · exact ⟨_, (ends_missPoll low asked poll).1⟩
    · exact ⟨s, (ends_mute low asked probe).1⟩
  · obtain poll | probe := window
    · exact ⟨_, (ends_missPoll low asked poll).2⟩
    · exact ⟨s, (ends_mute low asked probe).2⟩

/-- The rotation's PROBE under way ends as it would, and the sweep begins (R149, R150). -/
theorem ends_probeReply (low : s.resetLow = false) (asked : s.sweep = .requested) (probe : s.awaiting = .probe a)
    (reply : ProbeReply) : ∃ u, Ends (.probeReply reply) s u := by
  have run (v : Sweep) : exec (.probeReply reply) (swept s v) = .next (probeTurn (swept s v) (some reply)) := by
    rw [exec_probeReply (s := swept s v) low, show (swept s v).awaiting = .probe a from probe]
    rfl
  cases judged : judgeProbe a Config.patternOne (some reply) with
  | hello token =>
    refine ⟨foundPresent s a token (replyCaps (some reply)), ends_of_swept asked fun v => ?_⟩
    simp only [run, probeTurn, show (swept s v).awaiting = .probe a from probe, judged, foundPresent_swept]
  | missed | bad =>
    refine ⟨s, ends_of_swept asked fun v => ?_⟩
    simp only [run, probeTurn, show (swept s v).awaiting = .probe a from probe, judged]

/-! ### A CARD in that window (log entry 5) -/

theorem rest_of_retryStation {s : State} {a : Addr} (rest : atRest ((retryStation s a).stations.get a).state = true) :
    atRest (s.stations.get a).state = true := by
  obtain e | ⟨j, w, held, _, _, _, e⟩ := retryStation_cases s a
  · rwa [e] at rest
  · rw [e] at rest
    simp [resumed, idled_state, atRest] at rest

/-- A station that came back at rest was at rest (R60, R152). -/
theorem rest_of_cameBack (rest : atRest ((cameBack s a sent).stations.get a).state = true) :
    atRest (s.stations.get a).state = true := by
  have same : (heard s a sent).stations = s.stations := rfl
  unfold cameBack at rest
  dsimp only at rest
  split at rest
  · split at rest
    next settled => exact settled
    · split at rest
      · split at rest
        · simp [idled_state, atRest] at rest
        · simpa [atRest] using rest_of_retryStation rest
        · simp [atRest] at rest
        · simp [atRest] at rest
        · exact same ▸ rest
      · exact same ▸ rest
  · exact same ▸ rest

/-- A miss leaves a station at rest at rest (R151, R152). -/
theorem rest_missPoll (rest : atRest (s.stations.get a).state = true) :
    atRest ((missPoll s a).stations.get a).state = true := by
  have losing (t : State) (still : t.stations = s.stations) :
      atRest ((loseStation t a).stations.get a).state = true := by
    have state : (t.stations.get a).state = .idle ∨ (t.stations.get a).state = .disabled
        ∨ (t.stations.get a).state = .offline := by
      rw [still]
      obtain e | e | e := atRest_iff.1 rest <;> simp [e]
    rw [loseStation_of_rest state]
    simp [graced, seat, atRest]
  unfold missPoll
  dsimp only
  cases (s.presence.get a).state with
  | present =>
    dsimp only
    split
    · exact losing _ rfl
    · exact rest
  | lost | absent | conflict => exact rest

/-- What a CARD comes to in an exchange during which a sweep was asked for: a CARD that would start work at a station at
rest is not taken (log entry 5). -/
def CardEnds (s : State) (a : Addr) (sent : Option Message) (c : Instr) : Prop :=
  ∃ t : State, exec c (swept s .idle) = .next t ∧ exec c s = .next (sweepBegun (
    if atRest ((cameBack s a sent).stations.get a).state = true ∧ atRest (t.stations.get a).state = false
    then cameBack s a sent else t))

/-- A CARD that leaves a station at rest at rest is taken. -/
theorem cardEnds_of_ends {u : State} (ends : Ends c s u)
    (still : atRest ((cameBack s a sent).stations.get a).state = true → atRest (u.stations.get a).state = true) :
    CardEnds s a sent c := by
  refine ⟨ended u, ends.1, ?_⟩
  rw [if_neg]
  · exact ends.2
  · rintro ⟨rest, busy⟩
    exact absurd (still rest) (Bool.eq_false_iff.1 busy)

/-- A CARD with its number in range from the address polled (R23, R149, R154). -/
theorem cardEnds_of_polled (low : s.resetLow = false) (asked : s.sweep = .requested)
    (poll : s.awaiting = .poll a sent) (polled : isPolled (s.presence.get a).state = true) (toggle : Bool)
    {number : Nat} (inRange : cardInRange number = true) : CardEnds s a sent (.card (a.val + 1) toggle number) := by
  have came (v : Sweep) : exec (.card (a.val + 1) toggle number) (swept s v) =
      .next (endExchange (takeEvent toggle .card (takeCard number) a false (swept (cameBack s a sent) v))) := by
    rw [exec, execCard, whenRunning_eq _ _ (show (swept s v).resetLow = false from low), if_pos inRange,
      stationReply_event (s := swept s v) poll polled, cameBack_swept]
  have unswept : Unswept (takeCard number) := fun s v a => takeCard_swept s v a number
  have state := tookEvent_state toggle .card (takeCard number) a (cameBack s a sent)
  by_cases repeated : ((cameBack s a sent).presence.get a).toggle = some toggle
  · refine cardEnds_of_ends (u := repeatAnswer (cameBack s a sent) a) (ends_of_swept asked fun v => ?_) fun rest => ?_
    · rw [came, takeEvent_of_repeat (s := swept (cameBack s a sent) v) _ _ repeated, repeatAnswer_swept]
    · unfold repeatAnswer
      split <;> exact rest
  cases work : startsWork (cameBack s a sent) (takeCard number (cameBack s a sent) a).state a with
  | false =>
    refine cardEnds_of_ends (ends_of_swept asked fun v => by
      rw [came, takeEvent_of_new .card unswept repeated (.inr work)]) fun rest => ?_
    rw [startsWork, isBusy_eq, isBusy_eq, rest] at work
    rw [state]
    simpa using work
  | true =>
    refine ⟨_, by rw [came, takeEvent_of_new .card unswept repeated (.inl rfl), endExchange_swept_idle], ?_⟩
    have asks := came .requested
    rw [swept_of_requested asked, takeEvent_of_work .card unswept repeated work, endExchange_swept_requested] at asks
    rw [startsWork, isBusy_eq, isBusy_eq, ← state] at work
    rw [asks, if_pos (by simpa using work)]
    rfl

/-- A CARD in an exchange under way, in range or not, from whatever address (R146, R149; log entry 5). -/
theorem cardEnds (low : s.resetLow = false) (asked : s.sweep = .requested)
    (window : s.awaiting = .poll a sent ∨ s.awaiting = .probe a) (addr : Nat) (toggle : Bool) (number : Nat) :
    CardEnds s a sent (.card addr toggle number) := by
  cases inRange : cardInRange number with
  | false =>
    have same (v : Sweep) : exec (.card addr toggle number) (swept s v) = exec .garbledReply (swept s v) := by
      have low : (swept s v).resetLow = false := low
      have card : exec (.card addr toggle number) (swept s v) = .next (garbled (swept s v)) := by
        rw [exec, execCard, whenRunning_eq _ _ low, inRange, if_neg Bool.false_ne_true]
      rw [card, exec, execGarbledReply, whenRunning_eq _ _ low]
    obtain poll | probe := window
    · exact cardEnds_of_ends (.of_same asked same (ends_missPoll low asked poll).1) fun rest =>
        rest_missPoll (rest_of_cameBack rest)
    · exact cardEnds_of_ends (.of_same asked same (ends_mute low asked probe).1) rest_of_cameBack
  | true =>
    have run (v : Sweep) : exec (.card addr toggle number) (swept s v) =
        .next (stationReply addr (swept s v) (takeEvent toggle .card (takeCard number))) := by
      rw [exec, execCard, whenRunning_eq _ _ (show (swept s v).resetLow = false from low), if_pos inRange]
    obtain poll | probe := window
    · obtain ⟨missed, gone⟩ := ends_unheard asked poll run
      by_cases same : addr = a.val + 1
      · cases polled : isPolled (s.presence.get a).state with
        | true =>
          subst same
          exact cardEnds_of_polled low asked poll polled toggle inRange
        | false => exact cardEnds_of_ends (gone same polled) rest_of_cameBack
      · exact cardEnds_of_ends (missed same) fun rest => rest_missPoll (rest_of_cameBack rest)
    · exact cardEnds_of_ends (ends_of_swept asked fun v => by
        rw [run, stationReply_of_probe (s := swept s v) probe]) rest_of_cameBack

end

/-! ### RESCAN FLOOR itself -/

/-- A station has a job or an authorization in progress (R149). -/
theorem any_isBusy_iff {s : State} : (allAddrs.any fun a => isBusy (s.stations.get a).state) = true ↔
    ∃ a : Addr, hasOpenJob (s.stations.get a).state = true ∨ (s.stations.get a).state = .authorizing := by
  simp [isBusy, mem_allAddrs]

theorem rescanFloor_of_refused {s : State} (refused : (∃ a : Addr, hasOpenJob (s.stations.get a).state = true
    ∨ (s.stations.get a).state = .authorizing) ∨ s.sweep ≠ .idle) : rescanFloor s = refuse .wrongState s := by
  rw [rescanFloor, if_pos]
  rw [Bool.or_eq_true, any_isBusy_iff, bne_iff_ne]
  exact refused

/-- Over a floor at rest a sweep starts at once, or is asked for while a reply is awaited (R149). -/
theorem rescanFloor_of_quiet {s : State} (quiet : ¬ ∃ a : Addr, hasOpenJob (s.stations.get a).state = true
    ∨ (s.stations.get a).state = .authorizing) (idle : s.sweep = .idle) : rescanFloor s =
      if s.awaiting = .none then accept .none (startSweep s) else accept .none { s with sweep := .requested } := by
  rw [rescanFloor, if_neg]
  rw [Bool.or_eq_true, any_isBusy_iff, bne_iff_ne]
  exact fun busy => busy.elim quiet fun running => running idle

/-- Settles O42: refused, started or asked for; then what ends the exchange under way ends it as it would, and the
sweep begins. -/
theorem rescanFloorStartsASweep : Obligations.RescanFloorStartsASweep := by
  intro s req a sent c reply addr number toggle low o free busy ends
  have finishes {c : Instr} (h : ∃ u, Ends c s u) : ends c := by
    obtain ⟨u, without, within⟩ := h
    exact ⟨_, without, within⟩
  refine ⟨fun refused => ?_, fun quiet idle none => ?_, fun quiet idle awaited => ?_, fun asked window =>
    ⟨fun reply => finishes (ends_replyButCard low asked window reply), fun probe =>
      finishes (ends_probeReply low asked probe reply), cardEnds low asked window addr toggle number⟩⟩
  · exact request_refused low (rescanFloor_of_refused (s := o) refused)
  · exact request_answered low ((rescanFloor_of_quiet (s := o) quiet idle).trans (if_pos none))
  · exact request_answered low ((rescanFloor_of_quiet (s := o) quiet idle).trans (if_neg awaited))

end Sys2Proof.Machine

namespace Sys2Proof.Machine

set_option Elab.async false

/-! ## Every command answers a next state (R150, R157, R174)

The queue of waiting commands and the strap pins come from outside, and no command changes either (log entries 6
and 27). An operation that decides nothing leaves both by definition (`SameInputs.still`), so only the operations that
branch have a lemma here. -/

/-- The queue of waiting commands and the strap pins stand in `s` as they did in `r`. -/
structure SameInputs (r s : State) : Prop where
  pending : s.pending = r.pending
  straps  : s.straps = r.straps

theorem SameInputs.refl (s : State) : SameInputs s s := ⟨rfl, rfl⟩

/-! ### Timers, notices, messages -/

section
variable {r s : State} (h : SameInputs r s)
include h

/-- What is written is neither the queue nor the straps. -/
theorem SameInputs.still {t : State} (pending : t.pending = s.pending := by rfl)
    (straps : t.straps = s.straps := by rfl) : SameInputs r t := ⟨pending.trans h.pending, straps.trans h.straps⟩

theorem SameInputs.foldl {α : Type} {f : State → α → State} (each : ∀ t x, SameInputs r t → SameInputs r (f t x))
    (l : List α) : SameInputs r (l.foldl f s) := by
  induction l generalizing s with
  | nil => exact h
  | cons x l ih => exact ih (each s x h)

theorem SameInputs.refreshIdle (a : Addr) : SameInputs r (refreshIdle s a) := by
  obtain ⟨_, e⟩ := refreshIdle_eq s a
  rw [e]
  exact h.still

theorem SameInputs.takeRest (a : Addr) : SameInputs r (takeRest s a) := by
  rcases takeRest_cases s a with ⟨_, e⟩ | ⟨_, e⟩ <;> rw [e]
  · exact h.still
  · exact h

theorem SameInputs.newlyPresent (a : Addr) : SameInputs r (newlyPresent s a) := h.still

theorem SameInputs.placeCardResult (a : Addr) (x : CardResult) : SameInputs r (placeCardResult s a x) := by
  obtain ⟨_, e⟩ := placeCardResult_eq s a x
  rw [e]
  exact h.still

theorem SameInputs.withdrawResume (a : Addr) : SameInputs r (withdrawResume s a) := by
  obtain ⟨_, e⟩ := withdrawResume_eq s a
  rw [e]
  exact h.still

theorem SameInputs.placeClosed (a : Addr) (x : Option JobClosed) : SameInputs r (placeClosed s a x) := by
  cases x with
  | none => exact h
  | some j =>
    obtain ⟨_, e⟩ := placeJobClosed_eq s a j
    rw [Machine.placeClosed, e]
    exact h.still

theorem SameInputs.noticeLevel : SameInputs r (noticeLevel s) := by
  obtain ⟨_, e⟩ := noticeLevel_eq s
  rw [e]
  exact h.still

theorem SameInputs.tickOrder (as : List Addr) : SameInputs r (tickOrder s as) := by
  obtain ⟨_, e⟩ := tickOrder_eq s as
  rw [e]
  exact h.still

/-! ### Retries and closes -/

theorem SameInputs.retryStation (a : Addr) : SameInputs r (retryStation s a) := by
  obtain e | ⟨_, _, _, _, _, _, e⟩ := retryStation_cases s a <;> rw [e]
  · exact h
  · exact h.still

theorem SameInputs.retryAccount (n : AccountNo) : SameInputs r (retryAccount s n) := by
  refine h.foldl (fun t a g => ?_) _
  split
  · exact g.retryStation a
  · exact g

theorem SameInputs.retryIfRisen (before : Int) (n : AccountNo) : SameInputs r (retryIfRisen before s n) := by
  unfold Machine.retryIfRisen
  split
  · exact h.retryAccount n
  · exact h

theorem SameInputs.closeAtLost (a : Addr) : SameInputs r (closeAtLost s a) := by
  unfold Machine.closeAtLost
  split
  · exact h.still
  · exact h

theorem SameInputs.noticeLeavingJam (a : Addr) (before : StationState) :
    SameInputs r (noticeLeavingJam s a before) := by
  unfold Machine.noticeLeavingJam
  split
  · exact h.still
  · exact h

theorem SameInputs.closeQuiet (a : Addr) (why : EndReason) (j : Job) : SameInputs r (closeQuiet s a why j) := by
  have off : SameInputs r (takeOff (meterWriteOff s a (unconfirmed j)) a why (writtenOffJob j)) := by
    rw [takeOff_eq]
    exact h.still
  exact (off.closeAtLost a).noticeLeavingJam a _

theorem SameInputs.closeJob (a : Addr) (why : EndReason) (retry : Bool) : SameInputs r (closeJob s a why retry).1 := by
  unfold Machine.closeJob
  split
  next => exact h
  next j _ =>
    dsimp only
    split
    · exact (h.closeQuiet a why j).retryIfRisen _ _
    · exact h.closeQuiet a why j

theorem SameInputs.closeToSlot (a : Addr) (why : EndReason) : SameInputs r (closeToSlot s a why) :=
  (h.closeJob a why true).placeClosed a _

theorem SameInputs.beginClosing (a : Addr) (why : EndReason) : SameInputs r (beginClosing s a why).1 := by
  have closing : SameInputs r (setStation (enter s a .closing) a
      { (enter s a .closing).stations.get a with pendingEnd := some why, wanted := none }) := h.still
  unfold Machine.beginClosing
  split
  next => exact h
  next =>
    dsimp only
    split
    · exact closing.closeJob a why true
    · exact closing.still

theorem SameInputs.beginClosingToSlot (a : Addr) (why : EndReason) : SameInputs r (beginClosingToSlot s a why) :=
  (h.beginClosing a why).placeClosed a _

theorem SameInputs.forceClose (a : Addr) : SameInputs r (forceClose s a) := by
  unfold Machine.forceClose
  split
  iterate 2 next => exact h.beginClosingToSlot a _
  iterate 2 next => exact h.closeToSlot a _
  all_goals exact h

/-! ### Authorizations and grants -/

theorem SameInputs.endAuthorization (a : Addr) : SameInputs r (endAuthorization s a) := by
  obtain ⟨_, _, _, released⟩ := releaseAuthorization_eq s a
  have given : SameInputs r (releaseAuthorization s a) := by
    rw [released]
    exact h.still
  rw [endAuthorization_eq_unauthorized]
  exact given.still

theorem SameInputs.declineToSlot (a : Addr) (why : DeclineReason) : SameInputs r (declineToSlot s a why) :=
  (h.endAuthorization a).placeCardResult a _

theorem SameInputs.goOnline (a : Addr) (card : AuthCard) : SameInputs r (goOnline s a card) := by
  rw [goOnline_eq]
  split
  · exact h.still
  · exact h.still

theorem SameInputs.grant (a : Addr) (n : AccountNo) (guest : Bool) (ceiling : Option Nat) (hold : Nat) :
    SameInputs r (grant s a n guest ceiling hold) := by
  obtain ⟨_, e⟩ := openJob_eq s a n guest ceiling hold
  have opened : SameInputs r (openJob s a n guest ceiling hold) := by
    rw [e]
    exact h.still
  exact opened.refreshIdle a

theorem SameInputs.applyApproval (a : Addr) (n : AccountNo) (guest : Bool) (ceiling : Option Nat) (hold : Nat) :
    SameInputs r (applyApproval s a n guest ceiling hold).state := (h.grant a n guest ceiling hold).placeCardResult a _

theorem SameInputs.approveAccount (tag account : Nat) (hold : Option Nat) :
    SameInputs r (approveAccount tag account hold s).state := by
  unfold Machine.approveAccount
  split
  next =>
    split
    · exact h
    · split
      next => exact h
      next =>
        split
        next => exact h.declineToSlot _ _
        next => exact h.applyApproval _ _ _ _ _
  next => exact h

theorem SameInputs.approveGuest (tag amount plan : Nat) (rights : Byte) :
    SameInputs r (approveGuest tag amount plan rights s).state := by
  unfold Machine.approveGuest
  split
  next =>
    split
    · exact h
    · split
      next => exact h
      next =>
        split
        next => exact h.declineToSlot _ _
        next n _ => exact (h.still (t := setAccount s n _)).applyApproval _ _ _ _ _
  next => exact h

theorem SameInputs.declineAnswer (tag why : Nat) : SameInputs r (declineAnswer tag why s).state := by
  unfold Machine.declineAnswer
  split
  next =>
    split
    · exact h
    · split
      next => exact h
      next => exact h.declineToSlot _ _
  next => exact h

/-! ### Station events -/

theorem SameInputs.takeCard (number : Nat) (a : Addr) : SameInputs r (takeCard number s a).state := by
  unfold Machine.takeCard
  split
  next =>
    unfold authorizeCard resultOf
    dsimp only
    split
    next => exact h.takeRest a
    next => exact h.goOnline a _
    next => exact h.grant a _ _ _ _
  all_goals exact h

theorem SameInputs.takeCancel (a : Addr) : SameInputs r (takeCancel s a).state := by
  unfold Machine.takeCancel
  split
  · exact h.endAuthorization a
  · exact h

theorem SameInputs.grantFeed (a : Addr) (j : Job) (e : InFlight) : SameInputs r (grantFeed s a j e).state := h.still

theorem SameInputs.enterHeld (a : Addr) (wanted : Nat) : SameInputs r (enterHeld s a wanted) := by
  rw [enterHeld_eq]
  exact (h.withdrawResume a).still

theorem SameInputs.holdCheck (a : Addr) (j : Job) (e : InFlight) : SameInputs r (holdCheck s a j e).state := by
  have extended : SameInputs r (extend s a j) := h.still
  unfold Machine.holdCheck
  split
  · exact h.grantFeed a j e
  · split
    · exact extended.grantFeed a _ e
    · exact h.enterHeld a _

theorem SameInputs.takeFeed (sheet : U16) (sides : Sides) (a : Addr) :
    SameInputs r (takeFeed sheet sides s a).state := by
  unfold Machine.takeFeed
  split
  next =>
    split
    next => exact h
    next j _ =>
      split
      next => exact h
      next => exact h.holdCheck a j _
  all_goals exact h

theorem SameInputs.takeJam (cause : JamCause) (a : Addr) : SameInputs r (takeJam cause s a).state := by
  have jam : SameInputs r (recordJam s a cause) := h.still
  unfold Machine.takeJam
  dsimp only
  split
  iterate 2 next => exact jam.still
  next => exact jam.closeJob a _ true
  all_goals exact jam

theorem SameInputs.takeMatching (a : Addr) (j : Job) (e : InFlight) (rest : List InFlight) :
    SameInputs r (takeMatching s a j e rest).state := by
  have counted : SameInputs r (setJob (countSheet s a j.service e) a (deliverEntry j e rest)) := h.still
  unfold Machine.takeMatching
  dsimp only
  split
  · exact counted.closeJob a _ true
  · exact counted

theorem SameInputs.takeDelivered (sheet : U16) (a : Addr) : SameInputs r (takeDelivered sheet s a).state := by
  have order : SameInputs r (orderError s a).state := h.takeJam .order a
  have matching : SameInputs r (matchDelivery sheet s a).state := by
    unfold matchDelivery
    split
    next => exact h
    next j _ =>
      split
      next => exact order
      next e rest _ =>
        split
        · exact h.takeMatching a j e rest
        · exact order
  unfold Machine.takeDelivered
  split
  iterate 3 next => exact matching
  next => exact order
  all_goals exact h

theorem SameInputs.takeRecovered (restart : U16) (a : Addr) : SameInputs r (takeRecovered restart s a).state := by
  unfold Machine.takeRecovered
  dsimp only
  split
  next j _ _ =>
    split
    · exact h
    · split
      · exact h
      · have active : SameInputs r (enter (setJob (meterWriteOff s a (restartWriteOff j restart.val)) a
            (restartJob j restart.val)) a .active) := h.still
        exact (active.refreshIdle a).still
  next => exact h

theorem SameInputs.takeStatus (f : EngineFlags) (a : Addr) : SameInputs r (takeStatus f s a).state := by
  unfold Machine.takeStatus
  change SameInputs r (if _ then _ else _)
  split
  · exact h.still
  · exact h.still

theorem SameInputs.takeFinish (a : Addr) : SameInputs r (takeFinish s a).state := by
  unfold Machine.takeFinish
  split
  iterate 2 next => exact h.beginClosing a _
  next => exact h.closeJob a _ true
  all_goals exact h

/-! ### The floor link -/

theorem SameInputs.endExchange : SameInputs r (endExchange s) := by
  unfold Machine.endExchange
  dsimp only
  split <;> exact h.still

theorem SameInputs.foundPresent (a : Addr) (token : U16) (caps : Capabilities) :
    SameInputs r (foundPresent s a token caps) := by
  refine SameInputs.takeRest ?_ a
  split <;> exact h.still

theorem SameInputs.foundMissing (a : Addr) (p : Presence) : SameInputs r (foundMissing s a p) :=
  (h.still (t := setPresence s a _)).takeRest a

theorem SameInputs.sweepOutcome (a : Addr) (x y : FirstReply) (caps : Capabilities) :
    SameInputs r (sweepOutcome s a x y caps) := by
  unfold Machine.sweepOutcome
  split
  · exact h.foundPresent a _ caps
  · exact h.foundMissing a _

theorem SameInputs.nextTurn (a : Addr) : SameInputs r (nextTurn s a) := by
  unfold Machine.nextTurn
  split <;> exact h.still

theorem SameInputs.probeTurn (x : Option ProbeReply) : SameInputs r (probeTurn s x) := by
  unfold Machine.probeTurn
  split
  next => exact h.still
  next a _ _ => exact (h.sweepOutcome a _ _ _).nextTurn a
  next a _ =>
    split
    · exact (h.foundPresent a _ _).endExchange
    · exact h.endExchange
  all_goals exact h

theorem SameInputs.loseStation (a : Addr) : SameInputs r (loseStation s a) := by
  unfold Machine.loseStation
  split
  iterate 4 next => exact h.still
  next => exact (h.declineToSlot a .stationLost).still
  all_goals exact h.still

theorem SameInputs.missPoll (a : Addr) : SameInputs r (missPoll s a) := by
  unfold Machine.missPoll
  dsimp only
  split
  next =>
    split
    · exact (h.still (t := setPresence s a _)).loseStation a
    · exact h.still
  all_goals exact h.still

theorem SameInputs.returnStation (a : Addr) : SameInputs r (returnStation s a) := by
  have back (st : StationState) : SameInputs r (backTo s a st) := h.still
  unfold Machine.returnStation
  split
  · unfold restoreStation
    split
    · exact (back .active).refreshIdle a
    · exact ((back .held).still (t := startTimer (backTo s a .held) a .holdWait)).retryStation a
    all_goals exact h.still
  · exact h.takeRest a

theorem SameInputs.returnIf (lost : Bool) (a : Addr) : SameInputs r (returnIf lost s a) := by
  cases lost
  · exact h
  · exact h.returnStation a

theorem SameInputs.restartStation (a : Addr) : SameInputs r (restartStation s a) := by
  refine SameInputs.newlyPresent ?_ a
  split
  next => exact h.declineToSlot a _
  iterate 5 next => exact h.closeToSlot a _
  all_goals exact h.takeRest a

theorem SameInputs.takeHello (token : U16) (caps : Capabilities) (a : Addr) (lost : Bool) :
    SameInputs r (takeHello token caps a lost s) := by
  unfold Machine.takeHello
  split
  · exact (h.returnIf lost a).still
  · exact (h.still (t := setPresence (clearToggle s a) a _)).restartStation a

theorem SameInputs.takeEvent (toggle : Bool) (kind : EventKind) {ju : State → Addr → EventResult}
    (taken : ∀ t b, SameInputs r t → SameInputs r (ju t b).state) (a : Addr) (lost : Bool) :
    SameInputs r (takeEvent toggle kind ju a lost s) := by
  have back := h.returnIf lost a
  unfold Machine.takeEvent
  dsimp only
  split
  · unfold repeatAnswer
    split
    · exact back.still
    · exact back
  · split
    · exact back
    · exact ((taken _ a back).refreshIdle a).still

theorem SameInputs.stationReply (addr : Nat) {f : Addr → Bool → State → State}
    (taken : ∀ a lost t, SameInputs r t → SameInputs r (f a lost t)) : SameInputs r (stationReply addr s f) := by
  unfold Machine.stationReply
  split
  next a sent _ =>
    refine SameInputs.endExchange ?_
    split
    · unfold validReply
      dsimp only
      split
      · exact taken a _ _ (h.still (t := heard s a sent))
      · exact h
    · exact h.missPoll a
  iterate 3 next => exact h.probeTurn _
  next => exact h

theorem SameInputs.event (addr : Nat) (toggle : Bool) (kind : EventKind) {ju : State → Addr → EventResult}
    (taken : ∀ t b, SameInputs r t → SameInputs r (ju t b).state) :
    SameInputs r (Machine.stationReply addr s (Machine.takeEvent toggle kind ju)) :=
  h.stationReply addr fun a lost _ g => g.takeEvent toggle kind taken a lost

theorem SameInputs.garbled : SameInputs r (garbled s) := by
  unfold Machine.garbled
  split
  · exact (h.missPoll _).endExchange
  · exact h.probeTurn _

theorem SameInputs.missed : SameInputs r (missed s) := by
  unfold Machine.missed
  split
  · exact (h.missPoll _).endExchange
  · exact h.probeTurn _

/-! ### Requests -/

theorem SameInputs.endJob (addr : Nat) : SameInputs r (endJob addr s).state := by
  unfold Machine.endJob
  split
  next => exact h
  next a _ =>
    split
    iterate 3 next => exact h
    next => exact h.declineToSlot a _
    iterate 4 next => exact h.forceClose a
    next => exact h

theorem SameInputs.applyAdjust (n : AccountNo) (delta : Int) (why : Nat) :
    SameInputs r (applyAdjust n delta why s).state := by
  refine SameInputs.noticeLevel ?_
  split
  · exact (h.still (t := writeRecord (setAccount s n _) _)).retryAccount n
  · exact h.still

theorem SameInputs.adjustAccount (account : Nat) (delta : Int) (why : Nat) :
    SameInputs r (adjustAccount account delta why s).state := by
  unfold Machine.adjustAccount
  split
  · exact h
  · split
    · exact h
    · split
      · exact h
      · split
        · exact h
        · exact h.applyAdjust _ delta why

theorem SameInputs.acknowledgeJournal (n : Nat) : SameInputs r (acknowledgeJournal n s).state := by
  unfold Machine.acknowledgeJournal
  split
  · exact h
  · split
    · exact h
    · dsimp only
      split <;> exact h.still

theorem SameInputs.writeAccount (p : AccountPayload) : SameInputs r (writeAccount p s).state := by
  unfold Machine.writeAccount
  split
  · split
    · exact h
    · dsimp only
      split <;> exact h.still
  · exact h

theorem SameInputs.setAccountLimits (account : Nat) (limit plan discount : Option Nat) (rights : Option Byte) :
    SameInputs r (setAccountLimits account limit plan discount rights s).state := by
  unfold Machine.setAccountLimits
  split
  next n _ _ _ _ _ =>
    dsimp only
    split
    · exact h
    · exact (h.still (t := setAccount s n _)).retryIfRisen _ n
  next => exact h

theorem SameInputs.setAccountStatus (account status : Nat) :
    SameInputs r (setAccountStatus account status s).state := by
  unfold Machine.setAccountStatus
  split
  next n _ _ =>
    unfold unloadAccount
    dsimp only
    split
    · exact h
    · split <;> exact h.still
  next n st _ _ _ =>
    unfold changeStatus
    dsimp only
    split
    · exact h
    · split
      · exact h
      · have changed : SameInputs r (setAccount s n { s.accounts.get n with status := st }) := h.still
        change SameInputs r (if _ then _ else _)
        split
        · exact changed.retryAccount n
        · exact changed
  next => exact h

theorem SameInputs.changedAccounts : SameInputs r (changedAccounts s).state := by
  simp only [Machine.changedAccounts, accept_state]
  exact h.foldl (fun _ _ g => g.still) _

theorem SameInputs.writeCard (p : CardPayload) : SameInputs r (writeCard p s).state := by
  unfold Machine.writeCard
  split
  · split
    · exact h
    · split <;> exact h.still
  · exact h

theorem SameInputs.removeCard (n : Nat) : SameInputs r (removeCard n s).state := by
  unfold Machine.removeCard
  split
  · exact h
  · split <;> exact h.still

theorem SameInputs.writePlan (p : PlanPayload) : SameInputs r (writePlan p s).state := by
  unfold Machine.writePlan
  split
  · split
    · exact h
    · split <;> exact h.still
  · exact h

theorem SameInputs.rescanFloor : SameInputs r (rescanFloor s).state := by
  unfold Machine.rescanFloor
  split
  · exact h
  · split <;> exact h.still

theorem SameInputs.openWindow (table start count : Nat) : SameInputs r (openWindow table start count s).state := by
  unfold Machine.openWindow
  split
  · exact h
  · split <;> exact h.still

theorem SameInputs.windowWrite (t : WindowTable) (index : Nat) (record : WindowRecord) (x : Reply)
    (written : windowWrite t index record s = some x) : SameInputs r x.state := by
  unfold Machine.windowWrite at written
  split at written
  next p =>
    cases written
    split
    · exact h.writeAccount p
    · exact h
  next p => cases written; exact h.writeCard p
  next p =>
    cases written
    split
    · exact h.writePlan p
    · exact h
  next => cases written

theorem SameInputs.windowData (index : Nat) (record : WindowRecord) :
    SameInputs r (windowData index record s).state := by
  unfold Machine.windowData
  split
  next => exact h
  next w _ =>
    split
    · exact h
    · split
      next => exact h.still
      next x written => exact (h.windowWrite w.table index record x written).still

theorem SameInputs.panelText (dest : Nat) (p : PanelPayload) : SameInputs r (panelText dest p s).state := by
  unfold Machine.panelText
  split
  · exact h.still
  · split
    · exact h
    · split
      · exact h.foldl (fun _ _ g => g.still) _
      · split
        · unfold panelToOne
          split
          · exact h
          · split <;> exact h.still
        · exact h

theorem SameInputs.presetMeters (addr : Nat) (v : Meters (Option Nat)) :
    SameInputs r (presetMeters addr v s).state := by
  unfold Machine.presetMeters
  split
  · exact h
  · split <;> exact h.still

theorem SameInputs.setFreeVend (value : Nat) : SameInputs r (setFreeVend value s).state := by
  unfold Machine.setFreeVend
  split <;> exact h.still

theorem SameInputs.endAuthorizations : SameInputs r (endAuthorizations s) :=
  (h.still (t := { s with waitQueue := [] })).foldl (fun _ a g => g.declineToSlot a _) _

theorem SameInputs.forceAll (as : List Addr) : SameInputs r (forceAll s as) :=
  (h.tickOrder as).foldl (fun _ a g => g.forceClose a) _

theorem SameInputs.changeMode (m : ShopMode) : SameInputs r (changeMode m s).state := by
  have forced (as : List Addr) : SameInputs r (Machine.forceAll (Machine.endAuthorizations { s with mode := m }) as) :=
    (h.still (t := { s with mode := m })).endAuthorizations.forceAll as
  unfold Machine.changeMode
  change SameInputs r (if _ then _ else _)
  split
  · exact (forced _).foldl (fun _ a g => g.takeRest a) _
  · exact forced _

theorem SameInputs.setMode (mode : Nat) : SameInputs r (setMode mode s).state := by
  unfold Machine.setMode
  split
  · exact h
  · split
    · exact h
    · exact h.changeMode _

theorem SameInputs.disableStation (a : Addr) : SameInputs r (disableStation s a) := by
  unfold Machine.disableStation
  split
  iterate 2 next => exact h
  next => exact h.takeRest a
  next => exact h.declineToSlot a _
  iterate 4 next => exact h.forceClose a
  next => exact h

theorem SameInputs.setStationEnable (addr value : Nat) : SameInputs r (setStationEnable addr value s).state := by
  unfold Machine.setStationEnable
  split
  next a b _ _ =>
    split
    · exact h
    · have set : SameInputs r { s with adminEnable := s.adminEnable.set a b } := h.still
      change SameInputs r (if _ then _ else _)
      split
      · unfold enableStation
        split
        · exact set.takeRest a
        · exact set
      · exact set.disableStation a
  next => exact h

/-! ### Resets and transmission -/

theorem SameInputs.fullReset : SameInputs r (fullReset s) := h.still

theorem SameInputs.sendAll : SameInputs r (sendAll s) := by
  unfold Machine.sendAll
  split <;> exact h.still

theorem SameInputs.resetFloor : SameInputs r (floorDown (freeChannels (closeAll s))) := by
  have closed : SameInputs r (closeAll s) := (h.tickOrder _).foldl (fun _ a g => g.closeJob a _ false) _
  obtain ⟨_, e, _⟩ := freeChannels_eq (closeAll s)
  rw [e]
  exact closed.still

theorem SameInputs.noticeSent (e : NoticeEntry) : SameInputs r (noticeSent s e) := by
  cases e <;> exact h.still

end

/-! ### Every command -/

/-- The outcome is a next state, with the queue and the straps of `s`. -/
def AnswersNext (s : State) (o : Host.Outcome State Fault Refusal) : Prop := ∃ t, o = .next t ∧ SameInputs s t

theorem answersNext_whenRunning {s : State} {f : State → State} (kept : SameInputs s (f s)) :
    AnswersNext s (whenRunning s f) := by
  refine ⟨_, rfl, ?_⟩
  split
  · exact .refl s
  · exact kept

theorem answersNext_request {k : OfficeKind} {req : Nat} {s : State} {f : State → Reply}
    (kept : ∀ {u : State}, SameInputs s u → SameInputs s (f u).state) : AnswersNext s (request k req s f) :=
  answersNext_whenRunning (kept ((SameInputs.refl s).still (t := { s with window := none }))).still

theorem answersNext_expire {k : TimerKind} {addr : Nat} {s : State} {f : State → Addr → State}
    (kept : ∀ a, SameInputs s (f s a)) : AnswersNext s (expire k addr s f) := by
  refine answersNext_whenRunning ?_
  unfold atAddr
  split
  next a _ =>
    dsimp only
    split
    · exact kept a
    · exact .refl s
  next => exact .refl s

/-- Every command answers a next state, whatever the state (R157). -/
theorem answersNext_exec (c : Instr) (s : State) : AnswersNext s (exec c s) := by
  have start := SameInputs.refl s
  unfold exec
  cases c with
  | identify _ | readStatus _ | readJournal _ => exact answersNext_request fun g => g
  | readStation _ addr => exact answersNext_request fun g => by rwa [readStation_state]
  | readMeters _ addr => exact answersNext_request fun g => by rwa [readMeters_state]
  | readPlan _ p => exact answersNext_request fun g => by rwa [readPlan_state]
  | readAccount _ n => exact answersNext_request fun g => by rwa [readAccount_state]
  | readCard _ n => exact answersNext_request fun g => by rwa [readCard_state]
  | writeAccount _ p => exact answersNext_request fun g => g.writeAccount p
  | setAccountLimits _ n l p d x => exact answersNext_request fun g => g.setAccountLimits n l p d x
  | setAccountStatus _ n st => exact answersNext_request fun g => g.setAccountStatus n st
  | changedAccounts _ => exact answersNext_request fun g => g.changedAccounts
  | adjustAccount _ n d why => exact answersNext_request fun g => g.adjustAccount n d why
  | writeCard _ p => exact answersNext_request fun g => g.writeCard p
  | removeCard _ n => exact answersNext_request fun g => g.removeCard n
  | writePlan _ p => exact answersNext_request fun g => g.writePlan p
  | approveAccount _ tag n hold => exact answersNext_request fun g => g.approveAccount tag n hold
  | approveGuest _ tag amount plan x => exact answersNext_request fun g => g.approveGuest tag amount plan x
  | decline _ tag why => exact answersNext_request fun g => g.declineAnswer tag why
  | endJob _ addr => exact answersNext_request fun g => g.endJob addr
  | acknowledgeJournal _ n => exact answersNext_request fun g => g.acknowledgeJournal n
  | presetMeters _ addr v => exact answersNext_request fun g => g.presetMeters addr v
  | setMode _ m => exact answersNext_request fun g => g.setMode m
  | setFreeVend _ v => exact answersNext_request fun g => g.setFreeVend v
  | setStationEnable _ addr v => exact answersNext_request fun g => g.setStationEnable addr v
  | rescanFloor _ => exact answersNext_request fun g => g.rescanFloor
  | setTimers _ _ | pause _ | unpause _ => exact answersNext_request fun g => g.still
  | openWindow _ x y z => exact answersNext_request fun g => g.openWindow x y z
  | windowData _ n x => exact answersNext_whenRunning (start.windowData n x).still
  | panelText _ dest p => exact answersNext_whenRunning (start.panelText dest p).still
  | resetFull _ => exact answersNext_request fun g => g.sendAll.fullReset
  | resetFloor _ => exact answersNext_request fun g => g.resetFloor
  | discardedFrame => exact answersNext_whenRunning start
  | badRequestFrame dest kind _ =>
    refine answersNext_whenRunning
      (SameInputs.still (s := if closesWindow dest kind then { s with window := none } else s) ?_)
    split <;> exact start.still
  | resetPinAssert => exact ⟨_, rfl, start.still⟩
  | resetPinRelease =>
    refine ⟨_, rfl, ?_⟩
    split
    · exact start.fullReset
    · exact start
  | sendResponse =>
    refine answersNext_whenRunning ?_
    split <;> exact start.still
  | sendNotice =>
    refine answersNext_whenRunning ?_
    split
    · exact start
    · split
      · exact start
      next e q _ => exact (start.still (t := { s with notices := q, officeTx := _ })).noticeSent e
  | visit | absentProbe =>
    refine answersNext_whenRunning ?_
    split
    · split <;> exact start.still
    · exact start
  | sweepReply _ | probeReply _ =>
    refine answersNext_whenRunning ?_
    split
    · exact start.probeTurn _
    · exact start
  | nothing addr => exact answersNext_whenRunning (start.stationReply addr fun a lost _ g => g.returnIf lost a)
  | hello addr token caps =>
    exact answersNext_whenRunning (start.stationReply addr fun a lost _ g => g.takeHello token caps a lost)
  | garbledReply => exact answersNext_whenRunning start.garbled
  | missedReply => exact answersNext_whenRunning start.missed
  | card addr toggle n =>
    refine answersNext_whenRunning ?_
    split
    · exact start.event addr toggle _ fun _ a g => g.takeCard n a
    · exact start.garbled
  | cancel addr toggle => exact answersNext_whenRunning (start.event addr toggle _ fun _ a g => g.takeCancel a)
  | feed addr toggle n x => exact answersNext_whenRunning (start.event addr toggle _ fun _ a g => g.takeFeed n x a)
  | delivered addr toggle n =>
    exact answersNext_whenRunning (start.event addr toggle _ fun _ a g => g.takeDelivered n a)
  | jam addr toggle x => exact answersNext_whenRunning (start.event addr toggle _ fun _ a g => g.takeJam _ a)
  | recovered addr toggle n =>
    exact answersNext_whenRunning (start.event addr toggle _ fun _ a g => g.takeRecovered n a)
  | status addr toggle f => exact answersNext_whenRunning (start.event addr toggle _ fun _ a g => g.takeStatus f a)
  | finish addr toggle => exact answersNext_whenRunning (start.event addr toggle _ fun _ a g => g.takeFinish a)
  | authorizationTimerExpiry _ => exact answersNext_expire fun a => start.declineToSlot a _
  | idleTimerExpiry _ | holdWaitTimerExpiry _ => exact answersNext_expire fun a => start.beginClosingToSlot a _
  | jamTimerExpiry _ | drainTimerExpiry _ | reconnectGraceExpiry _ =>
    exact answersNext_expire fun a => start.closeToSlot a _
  | lossTimerExpiry addr =>
    refine answersNext_whenRunning ?_
    unfold atAddr
    split
    · dsimp only
      split
      · exact start.foundMissing _ _
      · exact start
    · exact start

/-- Settles O2: no command stops the block, and none touches the queue or the straps. -/
theorem everyCommandAnswersNext : Obligations.EveryCommandAnswersNext := by
  intro c s
  obtain ⟨t, next, pending, straps⟩ := answersNext_exec c s
  exact ⟨t, next, pending, straps⟩

/-- Settles O1: the queue's head is what `step` matches on. -/
theorem stepRunsFrontCommand : Obligations.StepRunsFrontCommand := by
  intro s c rest queued
  rw [step, queued]

end Sys2Proof.Machine

namespace Sys2Proof.Machine

set_option Elab.async false

/-! ## The bulk-load window (R161, R162) -/

/-! ### OPEN WINDOW (R161) -/

/-- The highest index of the table with a code (R161, R166). -/
theorem lastIndex_of_code {table : Nat} {k : WindowTable} (code : windowTableOf table = some k) :
    lastIndex k = if table = 0 then 479 else if table = 1 then 1023 else 7 := by
  match table with
  | 0 | 1 | 2 => cases code; rfl
  | n + 3 => simp [windowTableOf, windowTableOrder] at code

theorem openWindow_badRequest (s : State) {table start count : Nat}
    (out : 3 ≤ table ∨ count = 0 ∨ 512 < count
      ∨ (if table = 0 then 479 else if table = 1 then 1023 else 7) < start + count - 1) :
    openWindow table start count s = refuse .badRequest s := by
  unfold openWindow
  split
  next => rfl
  next k code =>
    rw [lastIndex_of_code code, if_pos]
    refine out.resolve_left fun unknown => ?_
    rw [windowTableOf, List.getElem?_eq_none (show windowTableOrder.length ≤ table from unknown)] at code
    cases code

theorem openWindow_opens (s : State) {table start count : Nat} {k : WindowTable} (code : windowTableOf table = some k)
    (least : 1 ≤ count) (most : count ≤ 512)
    (within : start + count - 1 ≤ if table = 0 then 479 else if table = 1 then 1023 else 7) :
    openWindow table start count s = accept .none { s with window := some ⟨k, start, start + count - 1⟩ } := by
  rw [← lastIndex_of_code code] at within
  simp only [openWindow, code]
  exact if_neg (by omega)

/-! ### The writes of a window, whatever the window (R162) -/

/-- A reply with the window of its state replaced. -/
def Reply.withWindow (r : Reply) (w : Option Window) : Reply := { r with state := { r.state with window := w } }

theorem writeAccount_withWindow (p : AccountPayload) (s : State) (w : Option Window) :
    writeAccount p { s with window := w } = (writeAccount p s).withWindow w := by
  unfold writeAccount
  split
  · split
    · rfl
    · dsimp only
      split <;> rfl
  · rfl

theorem writeCard_withWindow (p : CardPayload) (s : State) (w : Option Window) :
    writeCard p { s with window := w } = (writeCard p s).withWindow w := by
  have way : writeWay { s with window := w } p.card = writeWay s p.card := rfl
  have low (n : AccountNo) (c : Option Nat) : ceilingTooLow { s with window := w } n c = ceilingTooLow s n c := rfl
  unfold writeCard
  rw [way]
  split
  · rw [low]
    split
    · rfl
    · split <;> rfl
  · rfl

theorem writePlan_withWindow (p : PlanPayload) (s : State) (w : Option Window) :
    writePlan p { s with window := w } = (writePlan p s).withWindow w := by
  unfold writePlan
  split
  · split
    · rfl
    · split <;> rfl
  · rfl

/-! ### WINDOW DATA (R162) -/

theorem windowData_of_closed {s : State} (closed : s.window = none) (index : Nat) (record : WindowRecord) :
    windowData index record s = refuse .windowError s := by simp only [windowData, closed]

theorem windowData_of_other_index {s : State} {w : Window} {index : Nat} {record : WindowRecord}
    (opened : s.window = some w) (indexed : record.hasIndex = true) (other : index ≠ w.next) :
    windowData index record s = ⟨.windowError, .windowIndex w.next, s⟩ := by
  simp [windowData, opened, indexed, other]

/-- A record without an index, or at the next one, passes the check of the index (R162). -/
theorem index_passes {w : Window} {index : Nat} {record : WindowRecord}
    (due : record.hasIndex = true → index = w.next) : (record.hasIndex && index != w.next) = false := by
  cases indexed : record.hasIndex with
  | false => rfl
  | true => simp [due indexed]

theorem windowData_of_none {s : State} {w : Window} {index : Nat} {record : WindowRecord} (opened : s.window = some w)
    (due : record.hasIndex = true → index = w.next) (unfit : windowWrite w.table index record s = none) :
    windowData index record s = refuse .windowError { s with window := none } := by
  simp [windowData, opened, index_passes due, unfit]

theorem windowData_of_some {s : State} {w : Window} {index : Nat} {record : WindowRecord} {r : Reply}
    (opened : s.window = some w) (due : record.hasIndex = true → index = w.next)
    (fit : windowWrite w.table index record s = some r) :
    windowData index record s = ⟨r.status, .windowIndex index, { r.state with window := advanceWindow w }⟩ := by
  simp [windowData, opened, index_passes due, fit]

/-- WINDOW DATA is answered with what its function comes to (R162). -/
theorem exec_windowData {s t : State} {req index : Nat} {record : WindowRecord} {status : Status} {figures : Figures}
    (low : s.resetLow = false) (comes : windowData index record s = ⟨status, figures, t⟩) :
    exec (.windowData req index record) s = .next (answered t .windowData req status figures) := by
  rw [exec, execWindowData, whenRunning_eq _ _ low, comes]
  rfl

/-- A window's write and the single request that would write the same record: one status, one state but for the
window, which the request has closed and WINDOW DATA moves on (R162). -/
theorem windowData_as_request {s : State} {w : Window} {req index : Nat} {record : WindowRecord} {c : Instr}
    {k : OfficeKind} {f : State → Reply} (low : s.resetLow = false) (opened : s.window = some w)
    (due : index = w.next) (single : exec c s = request k req s f)
    (fit : windowWrite w.table index record s = some (f s))
    (blind : f { s with window := none } = (f s).withWindow none) :
    ∃ (t : State) (status : Status) (g : Figures),
      exec c s = .next (answered t k req status g) ∧ t.window = none
      ∧ exec (.windowData req index record) s =
          .next (answered { t with window := advanceWindow w } .windowData req status (.windowIndex index)) :=
  ⟨{ (f s).state with window := none }, (f s).status, (f s).figures, single.trans (request_answered low blind), rfl,
    exec_windowData low (windowData_of_some opened (fun _ => due) fit)⟩

/-- Settles O43: OPEN WINDOW checks its range, and WINDOW DATA writes its record as the single request would. -/
theorem windowsLoadRecordByRecord : Obligations.WindowsLoadRecordByRecord := by
  intro s req table start count index w record low o last fails
  refine ⟨fun out => request_refused low (openWindow_badRequest o out), fun k code least most within =>
    request_answered low (openWindow_opens o code least most within), fun closed =>
    exec_windowData low (windowData_of_closed closed index record), fun bytes opened =>
    exec_windowData low (windowData_of_none opened nofun ?_), fun opened indexed =>
    ⟨fun other => exec_windowData low (windowData_of_other_index opened indexed other), fun due => ?_⟩⟩
  · cases w.table <;> rfl
  · intro next same
    have unfit (h : windowWrite w.table index record s = none) :
        exec (.windowData req index record) s = fails o .none :=
      exec_windowData low (windowData_of_none opened (fun _ => due) h)
    have refused (h : windowWrite w.table index record s = some (refuse .badRequest s)) :
        exec (.windowData req index record) s =
          .next (answered { s with window := next } .windowData req .badRequest (.windowIndex index)) :=
      exec_windowData low (windowData_of_some opened (fun _ => due) h)
    split
    next p table =>
      exact ⟨fun own => windowData_as_request low opened due rfl (by simp [windowWrite, table, own])
        (writeAccount_withWindow p s none), fun other => refused (by simp [windowWrite, table, other])⟩
    next p table =>
      exact windowData_as_request low opened due rfl (by simp [windowWrite, table]) (writeCard_withWindow p s none)
    next p table =>
      exact ⟨fun own => windowData_as_request low opened due rfl (by simp [windowWrite, table, own])
        (writePlan_withWindow p s none), fun other => refused (by simp [windowWrite, table, other])⟩
    next notAccount notCard notPlan =>
      refine unfit ?_
      unfold windowWrite
      split
      · exact (notAccount _ ‹_› rfl).elim
      · exact (notCard _ ‹_› rfl).elim
      · exact (notPlan _ ‹_› rfl).elim
      · rfl

end Sys2Proof.Machine
